-- ==== Sys2Proof/Word.lean ====
section
/-! DEFINITION. The block's value types (00_scope.md R10) and the closed sets of names the spec uses: states of the
watchdog, of the self-test and of the burst, pins, pin modes, command letters. -/

namespace Sys2Proof

/-- `u8` (00_scope.md R10). -/
abbrev Byte := BitVec 8

/-- `u16` (00_scope.md R10). -/
abbrev Word := BitVec 16

/-- A byte string (00_scope.md R10), first byte first. -/
abbrev Bytes := List Byte

/-- `watchdog.state` (10_state.md R25). -/
inductive WatchdogState where
  | init
  | ok
  | error
deriving DecidableEq, Repr

/-- `test_state` (10_state.md R28). -/
inductive TestState where
  | initial
  | repeatedExpectOn
  | repeatedExpectOff
  | passed
  | failed
deriving DecidableEq, Repr

/-- What `sample` answers (43_selftest.md R171). -/
inductive SampleResult where
  | success
  | timeout
  | pending
deriving DecidableEq, Repr

/-- `lock_pin` (10_state.md R44): the reset-lock pin is a tri-state input or an output driven HIGH or LOW. -/
inductive LockPin where
  | hiZ
  | drivenHigh
  | drivenLow
deriving DecidableEq, Repr

/-- `burst_phase` (10_state.md R46). -/
inductive BurstPhase where
  | idle
  | phaseA
  | phaseB
deriving DecidableEq, Repr

/-- `burst_result` (10_state.md R46). -/
inductive BurstResult where
  | none
  | passed
  | stopFailed
  | retriggerFailed
deriving DecidableEq, Repr

/-- The 14 pins of the GPIO port, by the spec's symbolic names (20_memory.md R70, D36). -/
inductive Pin where
  | out (i : Fin 7)
  | wd
  | lock
  | led
  | inp (i : Fin 4)
deriving DecidableEq, Repr

/-- The modes of `gpio_mode` (20_memory.md R72). -/
inductive PinMode where
  | output
  | inputTriState
deriving DecidableEq, Repr

/-- One operation on the GPIO port (20_memory.md R71 to R73). -/
inductive GpioOp where
  | write (p : Pin) (level : Bool)
  | mode (p : Pin) (m : PinMode)
  | read (p : Pin)
deriving DecidableEq, Repr

/-- The six host commands (30_encoding.md R99). -/
inductive Command where
  | v
  | w
  | s
  | r
  | d
  | t
deriving DecidableEq, Repr

/-- The eight reasons of a NACK (60_exceptions.md R271). -/
inductive NackKind where
  | invalidFrame
  | invalidCommand
  | invalidCrc
  | unexpectedFrameNumber
  | invalidStartup
  | invalidIndex
  | invalidValue
  | overflow
deriving DecidableEq, Repr

end Sys2Proof
end

