-- ==== Sys2Proof/Config.lean ====
section
/-! DEFINITION. What is fixed for this hardware: the numeric parameters of 00_scope.md R8, the pulsed-port table
(10_state.md R24), the fault codes (41_error_store.md R147) and the open parameters of 00_scope.md R9, a record that the
machine takes as an argument (log 3). -/

namespace Sys2Proof.Config

/-- Milliseconds per tick (R8). -/
def tickMs : Nat := 1

/-- `TRIGGER_MAX`: the watchdog countdown's start (R8). -/
def triggerMax : Nat := 60000 / tickMs

/-- `LOCK_MAX`: the reset-lock countdown's start (R8). -/
def lockMax : Nat := 30000 / tickMs

/-- `STATE_TICKS_INIT`: consecutive matching samples needed (R8). -/
def stateTicksInit : Nat := 5

/-- `POLL_TIMEOUT_TICKS`: the self-test polling window, 10 s (R8). -/
def pollTimeoutTicks : Nat := 10000 / tickMs

/-- `NEXT_TEST_TICKS`: ticks until a repeated test must be requested, 100 h (R8). -/
def nextTestTicks : Nat := 360000000 / tickMs

/-- `BUF_CAP`: data bytes the receive buffer holds (R8, C2). -/
def bufCap : Nat := 20

/-- `RESP_MAX`: the longest response line in bytes, terminator included (R8). -/
def respMax : Nat := 60

/-- `LED_OK_TICKS` (R8). -/
def ledOkTicks : Nat := 2000 / tickMs

/-- `LED_ERR_TICKS` (R8). -/
def ledErrTicks : Nat := 100 / tickMs

/-- `BURST_TIMEOUT_EVENTS` (R8). -/
def burstTimeoutEvents : Nat := 10000 / tickMs

/-- `BURST_LOW_SAMPLES` (R8). -/
def burstLowSamples : Nat := 5

/-- `BURST_HIGH_SAMPLES` (R8). -/
def burstHighSamples : Nat := 500

/-- `PULSED[0..6]` (10_state.md R24): outputs 0 to 2 are pulsed, 3 to 6 steady. -/
def pulsed : Vector Bool 7 := #v[true, true, true, false, false, false, false]

/-- `InitialSelfTestError` (41_error_store.md R147). -/
def initialSelfTestError : Word := 0x0001

/-- `RepeatedSelfTestOnError` (R147). -/
def repeatedSelfTestOnError : Word := 0x0002

/-- `RepeatedSelfTestOffError` (R147). -/
def repeatedSelfTestOffError : Word := 0x0003

/-- `RepeatedSelfTestRequestMissed` (R147). -/
def repeatedSelfTestRequestMissed : Word := 0x0004

/-- `WatchdogNotTriggered` (R147). -/
def watchdogNotTriggered : Word := 0x1000

/-- `WatchdogCleared` (R147). -/
def watchdogCleared : Word := 0x1001

/-- `WatchdogStoppedUnexpectedly` (R147). -/
def watchdogStoppedUnexpectedly : Word := 0x1002

/-- The seven fault codes of 41_error_store.md R147. -/
def faultCodes : List Word :=
  [initialSelfTestError, repeatedSelfTestOnError, repeatedSelfTestOffError, repeatedSelfTestRequestMissed,
    watchdogNotTriggered, watchdogCleared, watchdogStoppedUnexpectedly]

/-- The parameters 00_scope.md R9 leaves open, "each a named argument of the model". `nackDiag` is the table of
`NACK_DIAG`: a code it does not list has the mask 0 (log 17). -/
structure Params where
  version        : Bytes
  eInvalidFrame   : Word
  eInvalidCommand : Word
  eInvalidCrc     : Word
  eInvalidStartup : Word
  eInvalidValue   : Word
  diagStartup    : Word
  nackDiag       : List (Word × Word)
  testInitial    : Word
  testRepeated   : Word
  edgePairs      : Nat
deriving DecidableEq, Repr

/-- The spec's defaults (R9, third table column): `VERSION` is the three bytes `1.0`. -/
def Params.defaults : Params where
  version         := [0x31, 0x2E, 0x30]
  eInvalidFrame   := 1
  eInvalidCommand := 2
  eInvalidCrc     := 3
  eInvalidStartup := 5
  eInvalidValue   := 7
  diagStartup     := 0x0001
  nackDiag        := []
  testInitial     := 0x0001
  testRepeated    := 0x0002
  edgePairs       := 1

/-- The NACK code of a reason (60_exceptions.md R271): 4, 6 and 8 are the source's, the others are parameters. -/
def Params.nackCode (p : Params) : NackKind → Word
  | .invalidFrame => p.eInvalidFrame
  | .invalidCommand => p.eInvalidCommand
  | .invalidCrc => p.eInvalidCrc
  | .unexpectedFrameNumber => 4
  | .invalidStartup => p.eInvalidStartup
  | .invalidIndex => 6
  | .invalidValue => p.eInvalidValue
  | .overflow => 8

/-- `NACK_DIAG(code)` (R9): the mask the table gives for `code`, 0 where it gives none. -/
def Params.nackMask (p : Params) (code : Word) : Word :=
  (p.nackDiag.lookup code).getD 0

/-- The constraints R9 puts on the parameters. -/
def Params.wf (p : Params) : Bool :=
  decide (p.version.length ≤ 44)
    && p.version.all (fun b => decide (0x20 ≤ b.toNat) && decide (b.toNat ≤ 0x7E) && b != 0x3B)
    && decide [p.eInvalidFrame, p.eInvalidCommand, p.eInvalidCrc, 4, p.eInvalidStartup, 6, p.eInvalidValue, 8].Nodup
    && p.diagStartup != 0
    && decide (1 ≤ p.edgePairs)

end Sys2Proof.Config
end

