-- ==== Sys2Proof/Machine/Crc.lean ====
section
/-! DEFINITION. CRC-16/X.25 (40_crc.md): `crc_step` and `crc_whole`, pure operations. -/

namespace Sys2Proof.Machine

/-- One turn of the loop of 40_crc.md R131: a right shift, with the reflected polynomial where bit 0 was set. -/
def crcShift (c : Word) : Word :=
  if c &&& 1 = 1 then (c >>> 1) ^^^ 0x8408 else c >>> 1

/-- `n` turns of the loop of R131. -/
def crcShifts : Nat → Word → Word
  | 0, c => c
  | n + 1, c => crcShifts n (crcShift c)

/-- `crc_step(byte, running)` (40_crc.md R131): no final XOR. -/
def crcStep (byte : Byte) (running : Word) : Word :=
  crcShifts 8 (running ^^^ byte.zeroExtend 16)

/-- `crc_step` over a byte string, from a running value (40_crc.md R133). -/
def crcFold : Bytes → Word → Word
  | [], c => c
  | b :: bs, c => crcFold bs (crcStep b c)

/-- `crc_whole(buf)` (40_crc.md R132): from 0xFFFF, with the final XOR. -/
def crcWhole (buf : Bytes) : Word :=
  crcFold buf 0xFFFF ^^^ 0xFFFF

end Sys2Proof.Machine
end

