-- ==== Sys2Proof/Machine/Operands.lean ====
section
/-! DEFINITION. The operand forms of the line protocol (30_encoding.md): characters, decimal numbers, Booleans, tokens,
the quoted form of a frame and the CRC token that ends a line. -/

namespace Sys2Proof.Machine

/-- `;` (00_scope.md R10). -/
def semi : Byte := 0x3B

/-- Line feed, one of the two terminators and the end of every response (R90, R91). -/
def lf : Byte := 0x0A

/-- NUL, the other terminator (R91). -/
def nul : Byte := 0x00

/-- The bracket that opens a quoted request (R101). -/
def lbracket : Byte := 0x5B

/-- The bracket that closes a quoted request (R101). -/
def rbracket : Byte := 0x5D

/-- `E`, the command letter of a NACK (R105). -/
def letterE : Byte := 0x45

/-- "The terminator bytes are exactly 0x0A and 0x00" (30_encoding.md R91). -/
def isTerminator (b : Byte) : Bool := b = lf || b = nul

/-- The printable range 0x20 to 0x7E (46_receiver.md R237). -/
def isPrintable (b : Byte) : Bool := decide (0x20 ≤ b.toNat) && decide (b.toNat ≤ 0x7E)

/-- The digits 0x30 to 0x39 (30_encoding.md R96). -/
def isDigit (b : Byte) : Bool := decide (0x30 ≤ b.toNat) && decide (b.toNat ≤ 0x39)

/-- The command letters (30_encoding.md R99). -/
def commandLetter : Command → Byte
  | .v => 0x56
  | .w => 0x57
  | .s => 0x53
  | .r => 0x52
  | .d => 0x44
  | .t => 0x54

/-- How many payload fields a command takes (30_encoding.md R99, 46_receiver.md R232). -/
def arity : Command → Nat
  | .v => 0
  | .w => 1
  | .s => 2
  | .r => 1
  | .d => 0
  | .t => 0

/-- The command a token names (46_receiver.md R231): exactly one byte, one of the six letters. -/
def commandOf (token : Bytes) : Option Command :=
  if token = [0x56] then some .v
  else if token = [0x57] then some .w
  else if token = [0x53] then some .s
  else if token = [0x52] then some .r
  else if token = [0x44] then some .d
  else if token = [0x54] then some .t
  else none

/-- The loop of `parse_u16` (30_encoding.md R96), from the value of the digits already read. -/
def parseDigits : Bytes → Nat → Option Word
  | [], v => some (BitVec.ofNat 16 v)
  | d :: ds, v =>
    if isDigit d then
      if v * 10 + (d.toNat - 0x30) > 65535 then none else parseDigits ds (v * 10 + (d.toNat - 0x30))
    else none

/-- `parse_u16(t)` (30_encoding.md R96); `none` is its reject. -/
def parseU16 (t : Bytes) : Option Word :=
  if t = [] then none else parseDigits t 0

/-- `parse_u16` of every token of a list (46_receiver.md R226); `none` if it rejects any of them. -/
def parseAll : List Bytes → Option (List Word)
  | [] => some []
  | t :: ts =>
    match parseU16 t, parseAll ts with
    | some v, some vs => some (v :: vs)
    | _, _ => none

/-- The decimal digits of `n`, at most `k` of them, most significant first. -/
def decDigits : Nat → Nat → Bytes
  | 0, _ => []
  | k + 1, n =>
    if n < 10 then [BitVec.ofNat 8 (0x30 + n)]
    else decDigits k (n / 10) ++ [BitVec.ofNat 8 (0x30 + n % 10)]

/-- `dec(n)` (30_encoding.md R97): minimal decimal digits, 1 to 5 bytes. -/
def dec (n : Word) : Bytes := decDigits 5 n.toNat

/-- A `Bool` on the line is the number 0 or 1 (30_encoding.md R98). -/
def decBool (b : Bool) : Bytes := if b then [0x31] else [0x30]

/-- `quoted(F)` (46_receiver.md R237): the printable bytes, in order. -/
def quoted (f : Bytes) : Bytes := f.filter isPrintable

/-- Split at every `;`: the tokens that a `;` ends, and what follows the last `;`. -/
def splitTokens : Bytes → List Bytes × Bytes
  | [] => ([], [])
  | b :: bs =>
    if b = semi then ([] :: (splitTokens bs).1, (splitTokens bs).2)
    else
      match splitTokens bs with
      | ([], tail) => ([], b :: tail)
      | (t :: ts, tail) => ((b :: t) :: ts, tail)

/-- Every token followed by `;` (30_encoding.md R92). -/
def joinTokens : List Bytes → Bytes
  | [] => []
  | t :: ts => t ++ semi :: joinTokens ts

/-- The named tokens of a frame (30_encoding.md R92): number, command, payload fields, CRC. -/
structure RawFrame where
  fno     : Bytes
  cmd     : Bytes
  payload : List Bytes
  crc     : Bytes
deriving DecidableEq, Repr

/-- `tokenise(F)` (46_receiver.md R225); `none` is its "malformed". The CRC token is the last one. -/
def tokenise (f : Bytes) : Option RawFrame :=
  match splitTokens f with
  | (fno :: cmd :: c :: cs, []) =>
    some { fno := fno, cmd := cmd, payload := (c :: cs).dropLast, crc := (c :: cs).getLast (List.cons_ne_nil c cs) }
  | _ => none

/-- `crc_cover(F) = F[0 .. n - c - 1)` for a CRC token of length `c` (30_encoding.md R95). -/
def crcCover (f crcToken : Bytes) : Bytes := f.take (f.length - crcToken.length - 1)

/-- `L ++ dec(crc_whole(L)) ++ ";\n"`: how every response line ends (30_encoding.md R103). -/
def closeLine (l : Bytes) : Bytes := l ++ dec (crcWhole l) ++ [semi, lf]

/-- The body `V;<version>;` (30_encoding.md R100). -/
def bodyV (version : Bytes) : Bytes := joinTokens [[commandLetter .v], version]

/-- The body `W;<oldRunning>;<newRunning>;<lockRequired>;` (R100). -/
def bodyW (old new lock : Bool) : Bytes :=
  joinTokens [[commandLetter .w], decBool old, decBool new, decBool lock]

/-- The body `S;<index>;<oldState>;<newState>;` (R100). -/
def bodyS (index : Word) (old new : Bool) : Bytes :=
  joinTokens [[commandLetter .s], dec index, decBool old, decBool new]

/-- The body `R;<index>;<state>;` (R100). -/
def bodyR (index : Word) (level : Bool) : Bytes :=
  joinTokens [[commandLetter .r], dec index, decBool level]

/-- The body `D;<diagnoses>;<firstError>;<executedTests>;` (R100). -/
def bodyD (diagnoses firstError executedTests : Word) : Bytes :=
  joinTokens [[commandLetter .d], dec diagnoses, dec firstError, dec executedTests]

/-- The body `T;<requestAccepted>;` (R100). -/
def bodyT (accepted : Bool) : Bytes :=
  joinTokens [[commandLetter .t], decBool accepted]

/-- The body `E;<code>;[<quoted request>];` of a NACK (30_encoding.md R101, 46_receiver.md R236). -/
def bodyNack (code : Word) (f : Bytes) : Bytes :=
  joinTokens [[letterE], dec code, lbracket :: quoted f ++ [rbracket]]

/-- The body `E;8;` of the overflow response (30_encoding.md R102). -/
def bodyOverflow : Bytes := joinTokens [[letterE], dec 8]

/-- The whole line: the frame number, the body, the CRC token (46_receiver.md R234). -/
def responseLine (fno : Word) (body : Bytes) : Bytes := closeLine (dec fno ++ semi :: body)

end Sys2Proof.Machine
end

