-- ==== Sys2Proof/Syntax.lean ====
section
/-! DEFINITION. The 45 rows of spec/opcode_table.json, one constructor each, in the table's order. -/

namespace Sys2Proof

/-- The instruction set. A request's operands are the TEXT of its numeric tokens (frame number, payload fields, CRC), so
that a constructor says every byte of its frame (30_encoding.md R92, R93). -/
inductive Instr where
  /-- `V`: request `fno;V;crc;` (R250). -/
  | reqV (fno crc : Bytes)
  /-- `W`: request `fno;W;state;crc;` (R251). -/
  | reqW (fno value crc : Bytes)
  /-- `S`: request `fno;S;index;state;crc;` (R252). -/
  | reqS (fno index value crc : Bytes)
  /-- `R`: request `fno;R;index;crc;` (R253). -/
  | reqR (fno index crc : Bytes)
  /-- `D`: request `fno;D;crc;` (R254). -/
  | reqD (fno crc : Bytes)
  /-- `T`: request `fno;T;crc;` (R255). -/
  | reqT (fno crc : Bytes)
  /-- `ACK.V`: response `fno;V;version;crc;` (R100, R250). -/
  | ackV (version : Bytes)
  /-- `ACK.W`: response `fno;W;oldRunning;newRunning;lockRequired;crc;` (R100, R251). -/
  | ackW (old new lock : Bool)
  /-- `ACK.S`: response `fno;S;index;oldState;newState;crc;` (R100, R252). -/
  | ackS (index : Word) (old new : Bool)
  /-- `ACK.R`: response `fno;R;index;state;crc;` (R100, R253). -/
  | ackR (index : Word) (level : Bool)
  /-- `ACK.D`: response `fno;D;diagnoses;firstError;executedTests;crc;` (R100, R254). -/
  | ackD (diagnoses firstError executedTests : Word)
  /-- `ACK.T`: response `fno;T;requestAccepted;crc;` (R100, R255). -/
  | ackT (accepted : Bool)
  /-- `NACK`: response `fno;E;code;[quoted];crc;` (R101, R236). -/
  | nackLine (code : Word) (quote : Bytes)
  /-- `NACK.overflow`: response `fno;E;8;crc;` (R102, R223). -/
  | nackOverflow
  /-- `RESET`: hardware reset (R301). -/
  | reset
  /-- `RX`: one received byte (R220). -/
  | rx (b : Byte)
  /-- `TICK`: one run of the cyclic task, with its readback sample and its four input samples (R190). -/
  | tick (rb : Bool) (levels : Vector Bool 4)
  /-- `BURST_START` (R211). -/
  | burstStart
  /-- `BURST_ITER` (R212, R213). -/
  | burstIter (rb tflag : Bool)
  /-- `crc_step` (R131). -/
  | crcStep (byte : Byte) (running : Word)
  /-- `crc_whole` (R132). -/
  | crcWhole (buf : Bytes)
  /-- `set_error` (R141). -/
  | setError (n : Word)
  /-- `set_diagnoses` (R142). -/
  | setDiagnoses (mask : Word)
  /-- `set_executed_test` (R143). -/
  | setExecutedTest (mask : Word)
  /-- `get_error` (R144). -/
  | getError
  /-- `get_diagnoses` (R145). -/
  | getDiagnoses
  /-- `get_executed_tests` (R146). -/
  | getExecutedTests
  /-- `watchdog.set` (R151). -/
  | watchdogSet (v : Word)
  /-- `enter_error` (R152); the code may be absent. -/
  | enterError (code : Option Word)
  /-- `watchdog.tick` (R153). -/
  | watchdogTick
  /-- `force_error` (R156). -/
  | forceError
  /-- `trigger` (R157). -/
  | trigger (rb : Bool)
  /-- `running` (R159). -/
  | running
  /-- `lock_required` (R160). -/
  | lockRequired
  /-- `selftest_handler` (R170). -/
  | selftestHandler (rb : Bool)
  /-- `sample` (R171). -/
  | sample (expected rb : Bool)
  /-- `fail` (R177). -/
  | fail (code : Word)
  /-- `request_self_test` (R178). -/
  | requestSelfTest
  /-- `enter` (R179). -/
  | enter (target : TestState)
  /-- `handle_frame` (R224). -/
  | handleFrame (frame : Bytes)
  /-- `parse_u16` (R96). -/
  | parseU16 (token : Bytes)
  /-- `dec` (R97). -/
  | dec (n : Word)
  /-- `ack` (R234). -/
  | ack (body : Bytes)
  /-- `nack` (R236). -/
  | nack (code : Word) (frame : Bytes)
  /-- `quoted` (R237). -/
  | quoted (frame : Bytes)
deriving DecidableEq, Repr

end Sys2Proof
end

