-- ==== Sys2Proof/WellFormed.lean ====
section
/-! DEFINITION. Which instructions respect the ranges their rows of spec/opcode_table.json give. The machine is total on
all of them: an ill-formed request is answered by a NACK, as 46_receiver.md says. -/

namespace Sys2Proof

open Machine

/-- `parse_u16` accepts the token (30_encoding.md R96). -/
def isNumber (t : Bytes) : Bool := (Machine.parseU16 t).isSome

/-- A frame fits the receive buffer (30_encoding.md R94). -/
def fitsBuffer (f : Bytes) : Bool := decide (f.length ≤ Config.bufCap)

/-- Bytes that reach the buffer: no terminator among them (30_encoding.md R91). -/
def isFrameText (f : Bytes) : Bool := fitsBuffer f && f.all (fun b => !isTerminator b)

/-- A legal version string (00_scope.md R9). -/
def isVersion (v : Bytes) : Bool :=
  decide (v.length ≤ 44) && v.all (fun b => isPrintable b && b != semi)

/-- Well-formed instructions: request tokens are numbers in a frame of at most 20 bytes (R92 to R96); response operands
are what a response row admits (R100, R101); operation operands are in the ranges of their rules. -/
def wellFormed : Instr → Bool
  | .reqV fno crc => isNumber fno && isNumber crc && fitsBuffer (joinTokens [fno, [commandLetter .v], crc])
  | .reqW fno value crc =>
      isNumber fno && isNumber value && isNumber crc && fitsBuffer (joinTokens [fno, [commandLetter .w], value, crc])
  | .reqS fno index value crc =>
      isNumber fno && isNumber index && isNumber value && isNumber crc
        && fitsBuffer (joinTokens [fno, [commandLetter .s], index, value, crc])
  | .reqR fno index crc =>
      isNumber fno && isNumber index && isNumber crc && fitsBuffer (joinTokens [fno, [commandLetter .r], index, crc])
  | .reqD fno crc => isNumber fno && isNumber crc && fitsBuffer (joinTokens [fno, [commandLetter .d], crc])
  | .reqT fno crc => isNumber fno && isNumber crc && fitsBuffer (joinTokens [fno, [commandLetter .t], crc])
  | .ackV version => isVersion version
  | .ackW _ _ _ => true
  | .ackS index _ _ => decide (index.toNat < 7)
  | .ackR index _ => decide (index.toNat < 4)
  | .ackD _ _ _ => true
  | .ackT _ => true
  | .nackLine _ quote => fitsBuffer quote && quote.all isPrintable
  | .nackOverflow => true
  | .reset => true
  | .rx _ => true
  | .tick _ _ => true
  | .burstStart => true
  | .burstIter _ _ => true
  | .crcStep _ _ => true
  | .crcWhole _ => true
  | .setError n => Config.faultCodes.contains n
  | .setDiagnoses _ => true
  | .setExecutedTest _ => true
  | .getError => true
  | .getDiagnoses => true
  | .getExecutedTests => true
  | .watchdogSet v => decide (v.toNat ≤ 1)
  | .enterError none => true
  | .enterError (some code) => Config.faultCodes.contains code
  | .watchdogTick => true
  | .forceError => true
  | .trigger _ => true
  | .running => true
  | .lockRequired => true
  | .selftestHandler _ => true
  | .sample _ _ => true
  | .fail code => Config.faultCodes.contains code
  | .requestSelfTest => true
  | .enter _ => true
  | .handleFrame frame => isFrameText frame
  | .parseU16 token => token.all (fun b => b != semi && !isTerminator b)
  | .dec _ => true
  | .ack body => body != [] && (splitTokens body).2 == []
  | .nack _ frame => isFrameText frame
  | .quoted frame => isFrameText frame

end Sys2Proof
end

