-- ==== Sys2Proof/Decode.lean ====
section
/-! DEFINITION. Reading a request frame (30_encoding.md R92 to R99) and a response line (R100 to R103), the encoders of
both, and the frame that stands for a word of spec/opcode_table.json. Events and operations are not encoded on any wire. -/

namespace Sys2Proof

open Machine

/-- Why a frame is no request: it is malformed (46_receiver.md R227), names no command (R231), or has a payload count
that is not the command's (R232). -/
inductive DecodeError where
  | malformed
  | unknownCommand
  | wrongArity
deriving DecidableEq, Repr

/-- The request a command token and its payload tokens make (46_receiver.md R231, R232). -/
def decodeRequest (r : RawFrame) : Except DecodeError Instr :=
  match commandOf r.cmd, r.payload with
  | some .v, [] => .ok (.reqV r.fno r.crc)
  | some .w, [value] => .ok (.reqW r.fno value r.crc)
  | some .s, [index, value] => .ok (.reqS r.fno index value r.crc)
  | some .r, [index] => .ok (.reqR r.fno index r.crc)
  | some .d, [] => .ok (.reqD r.fno r.crc)
  | some .t, [] => .ok (.reqT r.fno r.crc)
  | some _, _ => .error .wrongArity
  | none, _ => .error .unknownCommand

/-- The decoder of frames, total on any bytes: tokens (46_receiver.md R225), numbers (R226), command and arity. Whether
the frame number and the CRC are right is not its matter (R228, R229): it reads them. -/
def decode (f : Bytes) : Except DecodeError Instr :=
  match tokenise f with
  | none => .error .malformed
  | some r =>
    match Machine.parseU16 r.fno, parseAll r.payload, Machine.parseU16 r.crc with
    | some _, some _, some _ => decodeRequest r
    | _, _, _ => .error .malformed

/-- The tokens of a request's frame, in order (30_encoding.md R99); `none` for a row that is no request. -/
def requestTokens : Instr → Option (List Bytes)
  | .reqV fno crc => some [fno, [commandLetter .v], crc]
  | .reqW fno value crc => some [fno, [commandLetter .w], value, crc]
  | .reqS fno index value crc => some [fno, [commandLetter .s], index, value, crc]
  | .reqR fno index crc => some [fno, [commandLetter .r], index, crc]
  | .reqD fno crc => some [fno, [commandLetter .d], crc]
  | .reqT fno crc => some [fno, [commandLetter .t], crc]
  | .ackV _ | .ackW _ _ _ | .ackS _ _ _ | .ackR _ _ | .ackD _ _ _ | .ackT _ | .nackLine _ _ | .nackOverflow => none
  | .reset | .rx _ | .tick _ _ | .burstStart | .burstIter _ _ => none
  | .crcStep _ _ | .crcWhole _ | .setError _ | .setDiagnoses _ | .setExecutedTest _ => none
  | .getError | .getDiagnoses | .getExecutedTests => none
  | .watchdogSet _ | .enterError _ | .watchdogTick | .forceError | .trigger _ | .running | .lockRequired => none
  | .selftestHandler _ | .sample _ _ | .fail _ | .requestSelfTest | .enter _ => none
  | .handleFrame _ | .parseU16 _ | .dec _ | .ack _ | .nack _ _ | .quoted _ => none

/-- The encoder of frames: the bytes of a request before its terminator (30_encoding.md R92, R99). -/
def encode (i : Instr) : Option Bytes := (requestTokens i).map joinTokens

/-- The body of a response row's line (30_encoding.md R100 to R102); `none` for a row that is no response. -/
def responseBody : Instr → Option Bytes
  | .ackV version => some (bodyV version)
  | .ackW old new lock => some (bodyW old new lock)
  | .ackS index old new => some (bodyS index old new)
  | .ackR index level => some (bodyR index level)
  | .ackD diagnoses firstError executedTests => some (bodyD diagnoses firstError executedTests)
  | .ackT accepted => some (bodyT accepted)
  | .nackLine code quote => some (bodyNack code quote)
  | .nackOverflow => some bodyOverflow
  | .reqV _ _ | .reqW _ _ _ | .reqS _ _ _ _ | .reqR _ _ _ | .reqD _ _ | .reqT _ _ => none
  | .reset | .rx _ | .tick _ _ | .burstStart | .burstIter _ _ => none
  | .crcStep _ _ | .crcWhole _ | .setError _ | .setDiagnoses _ | .setExecutedTest _ => none
  | .getError | .getDiagnoses | .getExecutedTests => none
  | .watchdogSet _ | .enterError _ | .watchdogTick | .forceError | .trigger _ | .running | .lockRequired => none
  | .selftestHandler _ | .sample _ _ | .fail _ | .requestSelfTest | .enter _ => none
  | .handleFrame _ | .parseU16 _ | .dec _ | .ack _ | .nack _ _ | .quoted _ => none

/-- The encoder of response lines, with the frame number the line starts with, CRC token and `\n` included. -/
def encodeLine (fno : Word) (i : Instr) : Option Bytes := (responseBody i).map (responseLine fno)

/-- A `Bool` token of a response (30_encoding.md R98). -/
def parseBool (t : Bytes) : Option Bool :=
  if t = [0x30] then some false else if t = [0x31] then some true else none

/-- The text between the brackets of a NACK's quoted request (30_encoding.md R101). -/
def unbracket (t : Bytes) : Option Bytes :=
  match t with
  | [] => none
  | b :: rest => if b = lbracket ∧ rest.getLast? = some rbracket then some rest.dropLast else none

/-- The tokens after `E` of a negative response: a code alone is the overflow response (R102), a code and a bracketed
text is a NACK (R101); the text may itself hold `;`. -/
def decodeNegative : List Bytes → Option Instr
  | [] => none
  | [code] => if Machine.parseU16 code = some 8 then some .nackOverflow else none
  | code :: t :: ts =>
    match Machine.parseU16 code, unbracket (joinTokens (t :: ts)).dropLast with
    | some c, some q => some (.nackLine c q)
    | _, _ => none

/-- The response a command token and its tokens make (30_encoding.md R100 to R102, R105). -/
def decodeBody (cmd : Bytes) (tokens : List Bytes) : Option Instr :=
  if cmd = [letterE] then decodeNegative tokens
  else
    match commandOf cmd, tokens with
    | some .v, [version] => some (.ackV version)
    | some .w, [old, new, lock] =>
      match parseBool old, parseBool new, parseBool lock with
      | some o, some n, some l => some (.ackW o n l)
      | _, _, _ => none
    | some .s, [index, old, new] =>
      match Machine.parseU16 index, parseBool old, parseBool new with
      | some i, some o, some n => some (.ackS i o n)
      | _, _, _ => none
    | some .r, [index, level] =>
      match Machine.parseU16 index, parseBool level with
      | some i, some l => some (.ackR i l)
      | _, _ => none
    | some .d, [diagnoses, firstError, executedTests] =>
      match Machine.parseU16 diagnoses, Machine.parseU16 firstError, Machine.parseU16 executedTests with
      | some d, some e, some t => some (.ackD d e t)
      | _, _, _ => none
    | some .t, [accepted] =>
      match parseBool accepted with
      | some a => some (.ackT a)
      | _ => none
    | _, _ => none

/-- The decoder of response lines, as the host reads them (30_encoding.md R103, R105): the line ends in `\n` and its CRC
token is the CRC of the bytes before it. Answers the frame number and the response. -/
def decodeLine (line : Bytes) : Option (Word × Instr) :=
  if line.getLast? = some lf then
    match tokenise line.dropLast with
    | none => none
    | some r =>
      match Machine.parseU16 r.fno, Machine.parseU16 r.crc, decodeBody r.cmd r.payload with
      | some fno, some crc, some i =>
        if crc = Machine.crcWhole (crcCover line.dropLast r.crc) then some (fno, i) else none
      | _, _, _ => none
  else none

/-- The `k` bytes of a table word, the least significant first. -/
def tableToken : Nat → Nat → Bytes
  | 0, _ => []
  | k + 1, w => BitVec.ofNat 8 w :: tableToken k (w / 256)

/-- The frame that stands for a word of spec/opcode_table.json: the word is the command token (the rows' `note`), frame
number and payload fields are 0, and the CRC token, which has no bits in the table, is right (log 2). -/
def tableFrame (nbits w : Nat) : Bytes :=
  let cmd := tableToken (nbits / 8) w
  let fields := ((commandOf cmd).map arity).getD 0
  let covered := joinTokens ([0x30] :: cmd :: List.replicate fields [0x30])
  covered ++ Machine.dec (Machine.crcWhole covered) ++ [semi]

/-- The instruction the decoder reads from a table word (log 2). -/
def decodeTableWord (nbits w : Nat) : Option Instr :=
  match decode (tableFrame nbits w) with
  | .ok i => some i
  | .error _ => none

end Sys2Proof
end

