-- ==== Sys2Proof/Machine/State.lean ====
section
/-! DEFINITION. The state of the block as plain data (10_state.md), by component, with the reset values of R47; the
parameters of 00_scope.md R9; and the ports: events to come, lines sent, GPIO operations issued. -/

namespace Sys2Proof.Machine

/-- The events of the block (00_scope.md R12), with the values the environment supplies on its ports. -/
inductive Event where
  | reset
  | rx (b : Byte)
  | tick (rb : Bool) (levels : Vector Bool 4)
  | burstStart
  | burstIter (rb tflag : Bool)
deriving DecidableEq, Repr

/-- What an internal operation that is run on its own returned (log 7). -/
inductive OpResult where
  | none
  | bool (b : Bool)
  | word (w : Word)
  | parsed (w : Option Word)
  | bytes (l : Bytes)
  | sample (r : SampleResult)
deriving DecidableEq, Repr

/-- The watchdog triple (10_state.md R25 to R27). -/
structure Watchdog where
  state            : WatchdogState
  counter          : Nat
  resetLockCounter : Nat
deriving DecidableEq, Repr

/-- The self-test registers (10_state.md R28 to R33). -/
structure SelfTest where
  testState              : TestState
  stateTicks             : Nat
  pollingTimeout         : Nat
  remainingUntilNextTest : Nat
  requestFlag            : Bool
  confirmationFlag       : Bool
deriving DecidableEq, Repr

/-- The error and diagnosis registers (10_state.md R34 to R36). -/
structure ErrorStore where
  errorNumber   : Word
  diagnoses     : Word
  executedTests : Word
deriving DecidableEq, Repr

/-- The receiver registers (10_state.md R37 to R40). -/
structure Receiver where
  buf                     : Vector Byte 20
  requestIndex            : Nat
  overflow                : Bool
  nextExpectedFrameNumber : Word
  versionGate             : Bool
deriving DecidableEq, Repr

/-- The registers of the cyclic task that are no pins (10_state.md R41 to R43). -/
structure Cyclic where
  highCycle     : Bool
  lockPinLocked : Bool
  ledTicks      : Nat
deriving DecidableEq, Repr

/-- The pin registers (10_state.md R43, R44). `lockPullUp` is the pull-up of `LOCK` (20_memory.md R71, log 9). -/
structure Pins where
  wdPin      : Bool
  outPin     : Vector Bool 7
  lockPin    : LockPin
  lockPullUp : Bool
  ledLevel   : Bool
deriving DecidableEq, Repr

/-- The retrigger-burst registers and the timer flag (10_state.md R45, R46). -/
structure Burst where
  phase     : BurstPhase
  timeout   : Nat
  low       : Nat
  high      : Nat
  result    : BurstResult
  timerFlag : Bool
deriving DecidableEq, Repr

/-- The state: the block's registers, its parameters (log 3), and the model's own fields `ret` (log 7), `pending` (events
the environment has yet to deliver, oldest first, log 1), `sent` (lines handed to the line-out port, oldest first) and
`gpio` (GPIO operations issued, oldest first) (log 6). -/
structure State where
  outputs  : Vector Bool 7
  inputs   : Vector Bool 4
  watchdog : Watchdog
  selfTest : SelfTest
  errors   : ErrorStore
  receiver : Receiver
  cyclic   : Cyclic
  pins     : Pins
  burst    : Burst
  params   : Config.Params
  ret      : OpResult
  pending  : List Event
  sent     : List Bytes
  gpio     : List GpioOp
deriving DecidableEq, Repr

/-- Why the machine stops: an event arrived that the environment does not raise in this state. Each is SAFE: the model
stops where the spec gives the event no effect (log 4). -/
inductive Fault where
  /-- `BURST_START` while a burst runs: "Enabled only when `burst_phase == Idle`" (45_retrigger_burst.md R211). Raised by
  `execBurstStart`. Safe. -/
  | burstStartWhileRunning
  /-- `BURST_ITER` while no burst runs: "enabled only while `burst_phase != Idle`" (R215). Raised by `execBurstIter`. Safe. -/
  | burstIterWhileIdle
  /-- `RX` during a burst: "the environment raises no `TICK` and no `RX`" (R216). Raised by `execRx`. Safe. -/
  | rxDuringBurst
  /-- `TICK` during a burst (R216). Raised by `execTick`. Safe. -/
  | tickDuringBurst
deriving DecidableEq, Repr

/-- Why an instruction has no meaning in the model. -/
inductive Refusal where
  /-- An instruction whose meaning is not written yet, by its mnemonic: raised by no arm of `exec` (every row has its
  meaning). Safe. -/
  | notModelled (mnemonic : String)
deriving DecidableEq, Repr

/-- The reset values of 10_state.md R47 for given parameters: `diagnoses` is `DIAG_STARTUP`. The spec leaves `buf`
unspecified: 0 in every slot (log 5). -/
def State.resetWith (p : Config.Params) : State where
  outputs  := Vector.replicate 7 false
  inputs   := Vector.replicate 4 false
  watchdog := { state := .init, counter := 0, resetLockCounter := 0 }
  selfTest :=
    { testState := .initial, stateTicks := Config.stateTicksInit, pollingTimeout := Config.pollTimeoutTicks,
      remainingUntilNextTest := 0, requestFlag := false, confirmationFlag := false }
  errors   := { errorNumber := 0, diagnoses := p.diagStartup, executedTests := 0 }
  receiver :=
    { buf := Vector.replicate 20 0, requestIndex := 0, overflow := false, nextExpectedFrameNumber := 0,
      versionGate := false }
  cyclic   := { highCycle := false, lockPinLocked := false, ledTicks := 0 }
  pins     :=
    { wdPin := false, outPin := Vector.replicate 7 false, lockPin := .hiZ, lockPullUp := false, ledLevel := true }
  burst    := { phase := .idle, timeout := 0, low := 0, high := 0, result := .none, timerFlag := false }
  params   := p
  ret      := .none
  pending  := []
  sent     := []
  gpio     := []

/-- The machine right after reset, with the spec's default parameters (00_scope.md R9) and nothing pending. -/
def State.reset : State := State.resetWith Config.Params.defaults

/-- `s` with other output slots. -/
def State.withOutputs (s : State) (x : Vector Bool 7) : State := { s with outputs := x }

/-- `s` with other input slots. -/
def State.withInputs (s : State) (x : Vector Bool 4) : State := { s with inputs := x }

/-- `s` with another watchdog triple. -/
def State.withWatchdog (s : State) (x : Watchdog) : State := { s with watchdog := x }

/-- `s` with other self-test registers. -/
def State.withSelfTest (s : State) (x : SelfTest) : State := { s with selfTest := x }

/-- `s` with another error and diagnosis store. -/
def State.withErrors (s : State) (x : ErrorStore) : State := { s with errors := x }

/-- `s` with other receiver registers. -/
def State.withReceiver (s : State) (x : Receiver) : State := { s with receiver := x }

/-- `s` with other cyclic-task registers. -/
def State.withCyclic (s : State) (x : Cyclic) : State := { s with cyclic := x }

/-- `s` with other pin registers. -/
def State.withPins (s : State) (x : Pins) : State := { s with pins := x }

/-- `s` with other burst registers. -/
def State.withBurst (s : State) (x : Burst) : State := { s with burst := x }

/-- `s` with another operation result. -/
def State.withRet (s : State) (x : OpResult) : State := { s with ret := x }

/-- `s` with other events to come. -/
def State.withPending (s : State) (x : List Event) : State := { s with pending := x }

/-- `s` with other lines sent. -/
def State.withSent (s : State) (x : List Bytes) : State := { s with sent := x }

/-- `s` with other GPIO operations issued. -/
def State.withGpio (s : State) (x : List GpioOp) : State := { s with gpio := x }

end Sys2Proof.Machine
end

