-- ==== Sys2Proof/Machine/Ops.lean ====
section
/-! DEFINITION. The shared operations over the state: the GPIO and line-out ports (20_memory.md), the receive buffer, the
error and diagnosis store (41_error_store.md), and what this block has in place of taking an exception: the entry of a NACK
(46_receiver.md R236) and the entry of a watchdog fault (42_watchdog.md R152); the only return from a fault is `RESET`
(60_exceptions.md R280), which stands beside them. -/

namespace Sys2Proof.Machine

/-- The event's row of the opcode table (00_scope.md R12). -/
def Event.toInstr : Event → Instr
  | .reset => .reset
  | .rx b => .rx b
  | .tick rb levels => .tick rb levels
  | .burstStart => .burstStart
  | .burstIter rb tflag => .burstIter rb tflag

/-- One more GPIO operation issued (44_cyclic_task.md R199). -/
def issue (op : GpioOp) (s : State) : State := s.withGpio (s.gpio ++ [op])

/-- The pin registers after `gpio_write(pin, level)` (20_memory.md R71). `LOCK` is driven only while it is an output; its
level there is the pull-up of a following input mode (log 9). An input pin is driven by nothing. -/
def Pins.write (p : Pin) (level : Bool) (x : Pins) : Pins :=
  match p with
  | .out i => { x with outPin := x.outPin.set i level }
  | .wd => { x with wdPin := level }
  | .led => { x with ledLevel := level }
  | .lock =>
    if x.lockPin = .hiZ then x
    else { x with lockPin := if level then .drivenHigh else .drivenLow, lockPullUp := level }
  | .inp _ => x

/-- The pin registers after `gpio_mode(pin, mode)` (20_memory.md R72): the mode of `LOCK` alone is a register. As an output
it starts at the level its pull-up setting left (log 14). -/
def Pins.setMode (p : Pin) (m : PinMode) (x : Pins) : Pins :=
  match p, m with
  | .lock, .output => { x with lockPin := if x.lockPullUp then .drivenHigh else .drivenLow }
  | .lock, .inputTriState => { x with lockPin := .hiZ }
  | _, _ => x

/-- `gpio_write(pin, level)` (20_memory.md R71). -/
def gpioWrite (p : Pin) (level : Bool) (s : State) : State :=
  issue (.write p level) (s.withPins (s.pins.write p level))

/-- `gpio_mode(pin, mode)` (20_memory.md R72). -/
def gpioMode (p : Pin) (m : PinMode) (s : State) : State :=
  issue (.mode p m) (s.withPins (s.pins.setMode p m))

/-- `gpio_read(pin)` (20_memory.md R73): no effect on the block; the level read is the event's argument. -/
def gpioRead (p : Pin) (s : State) : State := issue (.read p) s

/-- `tx_line(bytes)` (20_memory.md R75). -/
def txLine (line : Bytes) (s : State) : State := s.withSent (s.sent ++ [line])

/-- Send a response: the expected frame number, the body, the CRC token (30_encoding.md R100 to R103). -/
def sendResponse (body : Bytes) (s : State) : State :=
  txLine (responseLine s.receiver.nextExpectedFrameNumber body) s

/-- The frame in the buffer: `buf[0 .. request_index)` (46_receiver.md R222). -/
def Receiver.frame (r : Receiver) : Bytes := r.buf.toList.take r.requestIndex

/-- Store one data byte at the cursor and advance it (46_receiver.md R221). -/
def Receiver.push (b : Byte) (r : Receiver) : Receiver :=
  { r with buf := r.buf.setIfInBounds r.requestIndex b, requestIndex := r.requestIndex + 1 }

/-- The buffer's slots from `i` on hold the bytes `f`, the others are unchanged; bytes beyond the buffer are dropped. -/
def storeFrom : Bytes → Nat → Vector Byte 20 → Vector Byte 20
  | [], _, buf => buf
  | b :: bs, i, buf => storeFrom bs (i + 1) (buf.setIfInBounds i b)

/-- The receiver after the bytes of a frame have come in from an empty buffer (46_receiver.md R221; log 2). -/
def Receiver.load (f : Bytes) (r : Receiver) : Receiver :=
  { r with buf := storeFrom f 0 r.buf, requestIndex := min f.length Config.bufCap, overflow := false }

/-- `set_error(n)` (41_error_store.md R141): the first error wins. -/
def setError (n : Word) (s : State) : State :=
  if s.errors.errorNumber = 0 then s.withErrors { s.errors with errorNumber := n } else s

/-- `set_diagnoses(mask)` (41_error_store.md R142). -/
def setDiagnoses (mask : Word) (s : State) : State :=
  s.withErrors { s.errors with diagnoses := s.errors.diagnoses ||| mask }

/-- `set_executed_test(mask)` (41_error_store.md R143). -/
def setExecutedTest (mask : Word) (s : State) : State :=
  s.withErrors { s.errors with executedTests := s.errors.executedTests ||| mask }

/-- `get_error()` (41_error_store.md R144): the value, and the state with it cleared. -/
def getError (s : State) : Word × State :=
  (s.errors.errorNumber, s.withErrors { s.errors with errorNumber := 0 })

/-- `get_diagnoses()` (41_error_store.md R145). -/
def getDiagnoses (s : State) : Word × State :=
  (s.errors.diagnoses, s.withErrors { s.errors with diagnoses := 0 })

/-- `get_executed_tests()` (41_error_store.md R146). -/
def getExecutedTests (s : State) : Word × State :=
  (s.errors.executedTests, s.withErrors { s.errors with executedTests := 0 })

/-- One less, "not below 0" (D4): no counter of the block wraps downward. -/
def countDown (n : Nat) : Nat := if n > 0 then n - 1 else n

/-- The triple after `enter_error` (42_watchdog.md R152). -/
def Watchdog.enterError (w : Watchdog) : Watchdog :=
  { state := .error, counter := 0, resetLockCounter := countDown w.resetLockCounter }

/-- THE ENTRY OF A WATCHDOG FAULT, `enter_error(code)` (42_watchdog.md R152, 60_exceptions.md R279): the state becomes
`Error`, the counter 0, the reset-lock counter one less, and a code that is present is offered to the latch. -/
def enterError (code : Option Word) (s : State) : State :=
  match code with
  | none => s.withWatchdog s.watchdog.enterError
  | some c => setError c (s.withWatchdog s.watchdog.enterError)

/-- THE ENTRY OF A NACK, `nack(code, F)` (46_receiver.md R236, 60_exceptions.md R277): the mask of the code is ORed into
`diagnoses` and the line is sent; the frame number stays. -/
def nack (code : Word) (f : Bytes) (s : State) : State :=
  sendResponse (bodyNack code f) (setDiagnoses (s.params.nackMask code) s)

/-- `nack` with the code of a named reason (60_exceptions.md R271). -/
def nackFor (reason : NackKind) (f : Bytes) (s : State) : State := nack (s.params.nackCode reason) f s

/-- `ack(body)` (46_receiver.md R234): the line is sent, then the frame number advances modulo 65536. -/
def ack (body : Bytes) (s : State) : State :=
  (sendResponse body s).withReceiver
    { s.receiver with nextExpectedFrameNumber := s.receiver.nextExpectedFrameNumber + 1 }

/-- THE ONLY RETURN FROM A FAULT, `RESET` (70_reset_and_hazards.md R301, 60_exceptions.md R280): every item takes its reset
value. The parameters, the events to come and the record of the ports are no items of the block (log 6). -/
def resetBlock (s : State) : State :=
  (((State.resetWith s.params).withPending s.pending).withSent s.sent).withGpio s.gpio

end Sys2Proof.Machine
end

