-- ==== Sys2Proof/Machine/Flags.lean ====
section
/-! DEFINITION. The one-bit values the rules compute: `running`, `lock_required`, the approval gate and its consumed flag
(42_watchdog.md), and the level of a logical output pin (44_cyclic_task.md R196). -/

namespace Sys2Proof.Machine

/-- `running()` is `state == Ok` (42_watchdog.md R159). -/
def running (s : State) : Bool := s.watchdog.state == .ok

/-- `lock_required()` is `reset_lock_counter != 0` (42_watchdog.md R160). -/
def lockRequired (s : State) : Bool := s.watchdog.resetLockCounter != 0

/-- Read and consume `confirmation_flag` (42_watchdog.md R157). -/
def consumeConfirmation (s : State) : Bool × State :=
  (s.selfTest.confirmationFlag, s.withSelfTest { s.selfTest with confirmationFlag := false })

/-- The approval gate (42_watchdog.md R157, R158): `(counter > 0) and c`. -/
def approved (counter : Nat) (confirmed : Bool) : Bool := decide (counter > 0) && confirmed

/-- The level step 5 drives on `OUT_i` (44_cyclic_task.md R196): HIGH only in `Ok` and with the slot on; a pulsed output then
follows `high_cycle`. -/
def outLevel (s : State) (i : Fin 7) : Bool :=
  if s.watchdog.state = .ok ∧ s.outputs[i] = true then
    if Config.pulsed[i] then s.cyclic.highCycle else true
  else false

/-- `burst_phase == Idle`: no burst runs, so `TICK` and `RX` may come (45_retrigger_burst.md R211, R216). -/
def burstIdle (s : State) : Bool := s.burst.phase == .idle

end Sys2Proof.Machine
end

