-- ==== Sys2Proof/Machine/ErrorStore.lean ====
section
/-! DEFINITION. The meanings of the pure operations (40_crc.md, 30_encoding.md) and of the error and diagnosis store
(41_error_store.md), run on their own: what an operation returns goes to `ret` (log 7). -/

namespace Sys2Proof.Machine

/-- An instruction of this machine: its next state, a fault, or a refusal. -/
abbrev Result := Host.Outcome State Fault Refusal

/-- `crc_step` (40_crc.md R131). -/
def execCrcStep (byte : Byte) (running : Word) (s : State) : Result := .next (s.withRet (.word (crcStep byte running)))

/-- `crc_whole` (40_crc.md R132). -/
def execCrcWhole (buf : Bytes) (s : State) : Result := .next (s.withRet (.word (crcWhole buf)))

/-- `parse_u16` (30_encoding.md R96): a value or its reject. -/
def execParseU16 (token : Bytes) (s : State) : Result := .next (s.withRet (.parsed (parseU16 token)))

/-- `dec` (30_encoding.md R97). -/
def execDec (n : Word) (s : State) : Result := .next (s.withRet (.bytes (dec n)))

/-- `quoted` (46_receiver.md R237). -/
def execQuoted (frame : Bytes) (s : State) : Result := .next (s.withRet (.bytes (quoted frame)))

/-- `set_error` (41_error_store.md R141). -/
def execSetError (n : Word) (s : State) : Result := .next (setError n s)

/-- `set_diagnoses` (41_error_store.md R142). -/
def execSetDiagnoses (mask : Word) (s : State) : Result := .next (setDiagnoses mask s)

/-- `set_executed_test` (41_error_store.md R143). -/
def execSetExecutedTest (mask : Word) (s : State) : Result := .next (setExecutedTest mask s)

/-- `get_error` (41_error_store.md R144). -/
def execGetError (s : State) : Result := .next ((getError s).2.withRet (.word (getError s).1))

/-- `get_diagnoses` (41_error_store.md R145). -/
def execGetDiagnoses (s : State) : Result := .next ((getDiagnoses s).2.withRet (.word (getDiagnoses s).1))

/-- `get_executed_tests` (41_error_store.md R146). -/
def execGetExecutedTests (s : State) : Result :=
  .next ((getExecutedTests s).2.withRet (.word (getExecutedTests s).1))

end Sys2Proof.Machine
end

