-- ==== Sys2Proof/Machine/Watchdog.lean ====
section
/-! DEFINITION. The watchdog core (42_watchdog.md): `watchdog.set`, `watchdog.tick`, `force_error`, and the meanings of its
operations run on their own. `trigger` stands in SelfTest.lean, since it calls the self-test. -/

namespace Sys2Proof.Machine

/-- `watchdog.set(v)` (42_watchdog.md R151, table R150). -/
def watchdogSet (v : Word) (s : State) : State :=
  match s.watchdog.state with
  | .init =>
    if v ≠ 0 then
      s.withWatchdog { state := .ok, counter := Config.triggerMax, resetLockCounter := Config.lockMax }
    else s.withWatchdog { s.watchdog with counter := 0 }
  | .ok =>
    if v ≠ 0 then s.withWatchdog { s.watchdog with counter := Config.triggerMax }
    else enterError (some Config.watchdogCleared) s
  | .error => s

/-- `watchdog.tick()` (42_watchdog.md R153, C3, C8). -/
def watchdogTick (s : State) : State :=
  match s.watchdog.state with
  | .ok =>
    if s.watchdog.counter > 0 then
      if s.watchdog.counter - 1 = 0 then
        enterError (some Config.watchdogNotTriggered)
          (s.withWatchdog { s.watchdog with counter := s.watchdog.counter - 1 })
      else s.withWatchdog { s.watchdog with counter := s.watchdog.counter - 1 }
    else enterError (some Config.watchdogStoppedUnexpectedly) s
  | .error => s.withWatchdog { s.watchdog with resetLockCounter := countDown s.watchdog.resetLockCounter }
  | .init => s

/-- `force_error()` (42_watchdog.md R156, C6): the entry of `Error` with no code. -/
def forceError (s : State) : State :=
  if s.watchdog.state ≠ .error then enterError none s else s

/-- `watchdog.set` (R151). -/
def execWatchdogSet (v : Word) (s : State) : Result := .next (watchdogSet v s)

/-- `enter_error` (R152). -/
def execEnterError (code : Option Word) (s : State) : Result := .next (enterError code s)

/-- `watchdog.tick` (R153). -/
def execWatchdogTick (s : State) : Result := .next (watchdogTick s)

/-- `force_error` (R156). -/
def execForceError (s : State) : Result := .next (forceError s)

/-- `running` (R159). -/
def execRunning (s : State) : Result := .next (s.withRet (.bool (running s)))

/-- `lock_required` (R160). -/
def execLockRequired (s : State) : Result := .next (s.withRet (.bool (lockRequired s)))

end Sys2Proof.Machine
end

