-- ==== Sys2Proof/Machine/SelfTest.lean ====
section
/-! DEFINITION. The self-test sub-state machine (43_selftest.md): its five states, `sample`, `enter`, `fail`,
`request_self_test`; and `trigger` with the approval gate (42_watchdog.md R157). -/

namespace Sys2Proof.Machine

/-- `sample(expected, rb)` (43_selftest.md R171): success is tested before the timeout (D21). -/
def sample (expected rb : Bool) (t : SelfTest) : SampleResult × SelfTest :=
  if rb = expected ∧ t.stateTicks - 1 = 0 then (.success, { t with stateTicks := t.stateTicks - 1 })
  else
    let t' : SelfTest :=
      { t with
        stateTicks := if rb = expected then t.stateTicks - 1 else Config.stateTicksInit
        pollingTimeout := t.pollingTimeout - 1 }
    if t'.pollingTimeout = 0 then (.timeout, t') else (.pending, t')

/-- `enter(s)` (43_selftest.md R179): a state's entry reloads both counters. -/
def enter (target : TestState) (t : SelfTest) : SelfTest :=
  { t with testState := target, stateTicks := Config.stateTicksInit, pollingTimeout := Config.pollTimeoutTicks }

/-- `fail(code)` (43_selftest.md R177): the code is offered to the latch, the test is `Failed`, the watchdog is forced. -/
def fail (code : Word) (s : State) : State :=
  forceError ((setError code s).withSelfTest { s.selfTest with testState := .failed })

/-- `confirmation_flag <- true`. -/
def confirm (s : State) : State := s.withSelfTest { s.selfTest with confirmationFlag := true }

/-- The success of `Initial` and of `RepeatedExpectOff` (43_selftest.md R172, R175): record the test, confirm, enter `Passed`
with a new interval. -/
def passTest (mask : Word) (s : State) : State :=
  let s1 := confirm (setExecutedTest mask s)
  s1.withSelfTest { enter .passed s1.selfTest with remainingUntilNextTest := Config.nextTestTicks }

/-- State `Initial` (43_selftest.md R172). -/
def handleInitial (rb : Bool) (s : State) : State :=
  match sample false rb s.selfTest with
  | (.success, t) => passTest s.params.testInitial (s.withSelfTest t)
  | (.timeout, t) => fail Config.initialSelfTestError (s.withSelfTest t)
  | (.pending, t) => s.withSelfTest t

/-- State `Passed` (43_selftest.md R173). -/
def handlePassed (s : State) : State :=
  let s1 := confirm s
  if s1.selfTest.requestFlag then
    s1.withSelfTest (enter .repeatedExpectOn { s1.selfTest with requestFlag := false })
  else
    let s2 := s1.withSelfTest
      { s1.selfTest with remainingUntilNextTest := s1.selfTest.remainingUntilNextTest - 1 }
    if s2.selfTest.remainingUntilNextTest = 0 then fail Config.repeatedSelfTestRequestMissed s2 else s2

/-- State `RepeatedExpectOn` (43_selftest.md R174). -/
def handleExpectOn (rb : Bool) (s : State) : State :=
  let s1 := confirm s
  match sample true rb s1.selfTest with
  | (.success, t) => s1.withSelfTest (enter .repeatedExpectOff t)
  | (.timeout, t) => fail Config.repeatedSelfTestOnError (s1.withSelfTest t)
  | (.pending, t) => s1.withSelfTest t

/-- State `RepeatedExpectOff` (43_selftest.md R175). -/
def handleExpectOff (rb : Bool) (s : State) : State :=
  match sample false rb s.selfTest with
  | (.success, t) => passTest s.params.testRepeated (s.withSelfTest t)
  | (.timeout, t) => fail Config.repeatedSelfTestOffError (s.withSelfTest t)
  | (.pending, t) => s.withSelfTest t

/-- `selftest_handler(rb)` (43_selftest.md R170), state `Failed` being R176. -/
def selftestHandler (rb : Bool) (s : State) : State :=
  match s.selfTest.testState with
  | .initial => handleInitial rb s
  | .passed => handlePassed s
  | .repeatedExpectOn => handleExpectOn rb s
  | .repeatedExpectOff => handleExpectOff rb s
  | .failed => forceError s

/-- `request_self_test()` (43_selftest.md R178): the flag is set only when the request succeeds. -/
def requestSelfTest (s : State) : Bool × State :=
  if s.selfTest.testState = .passed then (true, s.withSelfTest { s.selfTest with requestFlag := true })
  else (false, s)

/-- `trigger(rb)` (42_watchdog.md R157): the self-test, then the watchdog's tick, then the gate on what they left. -/
def trigger (rb : Bool) (s : State) : Bool × State :=
  let s1 := watchdogTick (selftestHandler rb s)
  let c := consumeConfirmation s1
  (approved c.2.watchdog.counter c.1, c.2)

/-- `trigger` (42_watchdog.md R157). -/
def execTrigger (rb : Bool) (s : State) : Result := .next ((trigger rb s).2.withRet (.bool (trigger rb s).1))

/-- `selftest_handler` (43_selftest.md R170). -/
def execSelftestHandler (rb : Bool) (s : State) : Result := .next (selftestHandler rb s)

/-- `sample` (43_selftest.md R171). -/
def execSample (expected rb : Bool) (s : State) : Result :=
  .next ((s.withSelfTest (sample expected rb s.selfTest).2).withRet (.sample (sample expected rb s.selfTest).1))

/-- `fail` (43_selftest.md R177). -/
def execFail (code : Word) (s : State) : Result := .next (fail code s)

/-- `request_self_test` (43_selftest.md R178). -/
def execRequestSelfTest (s : State) : Result :=
  .next ((requestSelfTest s).2.withRet (.bool (requestSelfTest s).1))

/-- `enter` (43_selftest.md R179). -/
def execEnter (target : TestState) (s : State) : Result := .next (s.withSelfTest (enter target s.selfTest))

end Sys2Proof.Machine
end

