-- ==== Sys2Proof/Machine/Cyclic.lean ====
section
/-! DEFINITION. The cyclic I/O task, event `TICK` (44_cyclic_task.md): seven steps in order. -/

namespace Sys2Proof.Machine

/-- Step 1 (44_cyclic_task.md R191): toggle `high_cycle`. -/
def toggleHighCycle (s : State) : State := s.withCyclic { s.cyclic with highCycle := !s.cyclic.highCycle }

/-- Step 3 (44_cyclic_task.md R193): drive the watchdog relay pin. -/
def driveWatchdogPin (permit : Bool) (s : State) : State :=
  if permit then gpioWrite .wd s.cyclic.highCycle s else gpioWrite .wd false s

/-- Step 4 (44_cyclic_task.md R194, R195): the reset-lock pin, on edges only. -/
def sequenceLock (s : State) : State :=
  if lockRequired s && !s.cyclic.lockPinLocked then
    let s1 := gpioWrite .lock true (gpioMode .lock .output s)
    s1.withCyclic { s1.cyclic with lockPinLocked := true }
  else if !lockRequired s && s.cyclic.lockPinLocked then
    let s1 := gpioMode .lock .inputTriState (gpioWrite .lock false s)
    s1.withCyclic { s1.cyclic with lockPinLocked := false }
  else s

/-- One output of step 5 (44_cyclic_task.md R196). -/
def driveOutput (s : State) (i : Fin 7) : State := gpioWrite (.out i) (outLevel s i) s

/-- Step 5 (44_cyclic_task.md R196), in index order. -/
def driveOutputs (s : State) : State := [0, 1, 2, 3, 4, 5, 6].foldl driveOutput s

/-- One input of step 6 (44_cyclic_task.md R197). -/
def sampleInput (levels : Vector Bool 4) (s : State) (i : Fin 4) : State :=
  let s1 := gpioRead (.inp i) s
  s1.withInputs (s1.inputs.set i levels[i])

/-- Step 6 (44_cyclic_task.md R197), in index order. -/
def sampleInputs (levels : Vector Bool 4) (s : State) : State := [0, 1, 2, 3].foldl (sampleInput levels) s

/-- The LED's half-period in the state the tick is in (44_cyclic_task.md R198). -/
def ledPeriod (s : State) : Nat := if s.watchdog.state = .ok then Config.ledOkTicks else Config.ledErrTicks

/-- Step 7 (44_cyclic_task.md R198): the status LED. -/
def driveLed (s : State) : State :=
  if s.watchdog.state = .init then
    gpioWrite .led true (s.withCyclic { s.cyclic with ledTicks := 0 })
  else if s.cyclic.ledTicks + 1 ≥ ledPeriod s then
    gpioWrite .led (!s.pins.ledLevel) (s.withCyclic { s.cyclic with ledTicks := 0 })
  else s.withCyclic { s.cyclic with ledTicks := s.cyclic.ledTicks + 1 }

/-- Step 2 (44_cyclic_task.md R192): the readback is a fresh read of `IN0`, then `trigger`. -/
def triggerStep (rb : Bool) (s : State) : Bool × State := trigger rb (gpioRead (.inp 0) s)

/-- `TICK(rb, in)` (44_cyclic_task.md R190): the seven steps. -/
def tick (rb : Bool) (levels : Vector Bool 4) (s : State) : State :=
  let p := triggerStep rb (toggleHighCycle s)
  driveLed (sampleInputs levels (driveOutputs (sequenceLock (driveWatchdogPin p.1 p.2))))

/-- `TICK` (44_cyclic_task.md R190); the environment raises none during a burst (45_retrigger_burst.md R216). -/
def execTick (rb : Bool) (levels : Vector Bool 4) (s : State) : Result :=
  if burstIdle s then .next (tick rb levels s) else .fault .tickDuringBurst

end Sys2Proof.Machine
end

