-- ==== Sys2Proof/Machine/Burst.lean ====
section
/-! DEFINITION. The retrigger burst (45_retrigger_burst.md): `BURST_START` and `BURST_ITER`. -/

namespace Sys2Proof.Machine

/-- `BURST_START` (45_retrigger_burst.md R211). -/
def burstStart (s : State) : State :=
  gpioWrite .wd false
    (s.withBurst
      { s.burst with
        phase := .phaseA, timeout := Config.burstTimeoutEvents, low := 0, high := 0, result := .none })

/-- `finish(r)` (45_retrigger_burst.md R215). -/
def burstFinish (r : BurstResult) (s : State) : State :=
  gpioWrite .wd false (s.withBurst { s.burst with result := r, phase := .idle })

/-- The environment presents the timer flag; the iteration reads it, which clears it, and counts a timer event
(45_retrigger_burst.md R214, 10_state.md R45). -/
def pollTimer (tflag : Bool) (s : State) : State :=
  let b : Burst := { s.burst with timerFlag := tflag }
  s.withBurst
    { b with timeout := if b.timerFlag then countDown b.timeout else b.timeout, timerFlag := false }

/-- `n` HIGH and LOW pairs on `WD` (45_retrigger_burst.md R213). -/
def edgePairs : Nat → State → State
  | 0, s => s
  | n + 1, s => edgePairs n (gpioWrite .wd false (gpioWrite .wd true s))

/-- `BURST_ITER` in `PhaseA` (45_retrigger_burst.md R212): success is tested before the timeout. -/
def burstIterA (rb tflag : Bool) (s : State) : State :=
  let s1 := gpioRead (.inp 0) (gpioWrite .wd false (pollTimer tflag s))
  let s2 := s1.withBurst { s1.burst with low := if rb = false then s1.burst.low + 1 else s1.burst.low }
  if s2.burst.low = Config.burstLowSamples then s2.withBurst { s2.burst with phase := .phaseB }
  else if s2.burst.timeout = 0 then burstFinish .stopFailed s2
  else s2

/-- `BURST_ITER` in `PhaseB` (45_retrigger_burst.md R213): `rb` is sampled after the edges. -/
def burstIterB (rb tflag : Bool) (s : State) : State :=
  let s1 := gpioRead (.inp 0) (edgePairs s.params.edgePairs (pollTimer tflag s))
  let s2 := s1.withBurst { s1.burst with high := if rb = true then s1.burst.high + 1 else s1.burst.high }
  if s2.burst.high = Config.burstHighSamples then burstFinish .passed s2
  else if s2.burst.timeout = 0 then burstFinish .retriggerFailed s2
  else s2

/-- `BURST_START` (45_retrigger_burst.md R211): "Enabled only when `burst_phase == Idle`". -/
def execBurstStart (s : State) : Result :=
  if burstIdle s then .next (burstStart s) else .fault .burstStartWhileRunning

/-- `BURST_ITER` (45_retrigger_burst.md R212, R213): enabled only while a burst runs (R215). -/
def execBurstIter (rb tflag : Bool) (s : State) : Result :=
  match s.burst.phase with
  | .idle => .fault .burstIterWhileIdle
  | .phaseA => .next (burstIterA rb tflag s)
  | .phaseB => .next (burstIterB rb tflag s)

end Sys2Proof.Machine
end

