-- ==== Sys2Proof/Machine/Commands.lean ====
section
/-! DEFINITION. The six host commands (47_commands.md), the checks of a frame (46_receiver.md R224 to R233), and the meanings
of the request rows: the handling of the frame their tokens make. -/

namespace Sys2Proof.Machine

/-- `exec_V()` (47_commands.md R250). -/
def commandV (s : State) : State :=
  ack (bodyV s.params.version) (s.withReceiver { s.receiver with versionGate := true })

/-- `exec_W(v)` (47_commands.md R251). -/
def commandW (v : Word) (s : State) : State :=
  let s1 := watchdogSet v s
  ack (bodyW (running s) (running s1) (lockRequired s1)) s1

/-- `exec_S(i, v)` (47_commands.md R252), for a slot that exists. -/
def commandS (i : Fin 7) (v : Word) (s : State) : State :=
  ack (bodyS (BitVec.ofNat 16 i) s.outputs[i] (v == 1)) (s.withOutputs (s.outputs.set i (v == 1)))

/-- `exec_R(i)` (47_commands.md R253), for a slot that exists. -/
def commandR (i : Fin 4) (s : State) : State := ack (bodyR (BitVec.ofNat 16 i) s.inputs[i]) s

/-- `exec_D()` (47_commands.md R254): the three reads in the order of the response tokens. -/
def commandD (s : State) : State :=
  let d := getDiagnoses s
  let e := getError d.2
  let t := getExecutedTests e.2
  ack (bodyD d.1 e.1 t.1) t.2

/-- `exec_T()` (47_commands.md R255). -/
def commandT (s : State) : State :=
  let ok := requestSelfTest s
  ack (bodyT ok.1) ok.2

/-- Checks 5 to 8 and the effect of `V` (46_receiver.md R232, R233). -/
def runV (f : Bytes) (args : List Word) (s : State) : State :=
  match args with
  | [] => commandV s
  | _ => nackFor .invalidFrame f s

/-- Checks 5 to 8 and the effect of `W` (R232, R233): startup before value. -/
def runW (f : Bytes) (args : List Word) (s : State) : State :=
  match args with
  | [v] =>
    if s.receiver.versionGate = false then nackFor .invalidStartup f s
    else if v.toNat > 1 then nackFor .invalidValue f s
    else commandW v s
  | _ => nackFor .invalidFrame f s

/-- Checks 5 to 8 and the effect of `S` (R232, R233): index before value. -/
def runS (f : Bytes) (args : List Word) (s : State) : State :=
  match args with
  | [index, v] =>
    if h : index.toNat < 7 then
      if v.toNat > 1 then nackFor .invalidValue f s else commandS ⟨index.toNat, h⟩ v s
    else nackFor .invalidIndex f s
  | _ => nackFor .invalidFrame f s

/-- Checks 5 to 8 and the effect of `R` (R232, R233). -/
def runR (f : Bytes) (args : List Word) (s : State) : State :=
  match args with
  | [index] => if h : index.toNat < 4 then commandR ⟨index.toNat, h⟩ s else nackFor .invalidIndex f s
  | _ => nackFor .invalidFrame f s

/-- Checks 5 to 8 and the effect of `D` (R232, R233). -/
def runD (f : Bytes) (args : List Word) (s : State) : State :=
  match args with
  | [] => commandD s
  | _ => nackFor .invalidFrame f s

/-- Checks 5 to 8 and the effect of `T` (R232, R233). -/
def runT (f : Bytes) (args : List Word) (s : State) : State :=
  match args with
  | [] => commandT s
  | _ => nackFor .invalidFrame f s

/-- Check 4 and the dispatch (46_receiver.md R231, R233). -/
def runCommand (cmd f : Bytes) (args : List Word) (s : State) : State :=
  match commandOf cmd with
  | some .v => runV f args s
  | some .w => runW f args s
  | some .s => runS f args s
  | some .r => runR f args s
  | some .d => runD f args s
  | some .t => runT f args s
  | none => nackFor .invalidCommand f s

/-- Checks 1 (numbers), 2 and 3 (46_receiver.md R226 to R229), then `run` on the payload's values. -/
def checkFrame (f fno crc : Bytes) (payload : List Bytes) (run : List Word → State → State) (s : State) : State :=
  match parseU16 fno, parseAll payload, parseU16 crc with
  | some n, some args, some c =>
    if n ≠ s.receiver.nextExpectedFrameNumber then nackFor .unexpectedFrameNumber f s
    else if c ≠ crcWhole (crcCover f crc) then nackFor .invalidCrc f s
    else run args s
  | _, _, _ => nackFor .invalidFrame f s

/-- `handle_frame(F)` (46_receiver.md R224 to R233): the first check that fails sends its NACK. -/
def handleFrame (f : Bytes) (s : State) : State :=
  match tokenise f with
  | none => nackFor .invalidFrame f s
  | some r => checkFrame f r.fno r.crc r.payload (runCommand r.cmd f) s

/-- `handle_frame` (46_receiver.md R224). -/
def execHandleFrame (frame : Bytes) (s : State) : Result := .next (handleFrame frame s)

/-- `V`: the frame `fno;V;crc;` (47_commands.md R250). -/
def execReqV (fno crc : Bytes) (s : State) : Result :=
  let f := joinTokens [fno, [commandLetter .v], crc]
  .next (checkFrame f fno crc [] (runV f) s)

/-- `W`: the frame `fno;W;state;crc;` (47_commands.md R251). -/
def execReqW (fno value crc : Bytes) (s : State) : Result :=
  let f := joinTokens [fno, [commandLetter .w], value, crc]
  .next (checkFrame f fno crc [value] (runW f) s)

/-- `S`: the frame `fno;S;index;state;crc;` (47_commands.md R252). -/
def execReqS (fno index value crc : Bytes) (s : State) : Result :=
  let f := joinTokens [fno, [commandLetter .s], index, value, crc]
  .next (checkFrame f fno crc [index, value] (runS f) s)

/-- `R`: the frame `fno;R;index;crc;` (47_commands.md R253). -/
def execReqR (fno index crc : Bytes) (s : State) : Result :=
  let f := joinTokens [fno, [commandLetter .r], index, crc]
  .next (checkFrame f fno crc [index] (runR f) s)

/-- `D`: the frame `fno;D;crc;` (47_commands.md R254). -/
def execReqD (fno crc : Bytes) (s : State) : Result :=
  let f := joinTokens [fno, [commandLetter .d], crc]
  .next (checkFrame f fno crc [] (runD f) s)

/-- `T`: the frame `fno;T;crc;` (47_commands.md R255). -/
def execReqT (fno crc : Bytes) (s : State) : Result :=
  let f := joinTokens [fno, [commandLetter .t], crc]
  .next (checkFrame f fno crc [] (runT f) s)

end Sys2Proof.Machine
end

