-- ==== Sys2Proof/Machine/Receiver.lean ====
section
/-! DEFINITION. The line-protocol receiver (46_receiver.md): the `RX` event, the response rows, and `RESET`. -/

namespace Sys2Proof.Machine

/-- A data byte (46_receiver.md R221): discarded in resync; at a full buffer it starts resync; else stored. -/
def dataByte (b : Byte) (s : State) : State :=
  if s.receiver.overflow then s
  else if s.receiver.requestIndex = Config.bufCap then s.withReceiver { s.receiver with overflow := true }
  else s.withReceiver (s.receiver.push b)

/-- A terminator in resync (46_receiver.md R223): resync ends and the overflow response is sent. -/
def endResync (s : State) : State :=
  sendResponse bodyOverflow
    (setDiagnoses (s.params.nackMask (s.params.nackCode .overflow))
      (s.withReceiver { s.receiver with overflow := false, requestIndex := 0 }))

/-- A terminator outside resync (46_receiver.md R222): the frame is complete and is handled from an empty buffer. -/
def endFrame (s : State) : State :=
  handleFrame s.receiver.frame (s.withReceiver { s.receiver with requestIndex := 0 })

/-- `RX(b)` (46_receiver.md R220). -/
def receive (b : Byte) (s : State) : State :=
  if isTerminator b then
    if s.receiver.overflow then endResync s else endFrame s
  else dataByte b s

/-- `RX` (46_receiver.md R220); the environment raises none during a burst (45_retrigger_burst.md R216). -/
def execRx (b : Byte) (s : State) : Result :=
  if burstIdle s then .next (receive b s) else .fault .rxDuringBurst

/-- `RESET` (70_reset_and_hazards.md R301). -/
def execReset (s : State) : Result := .next (resetBlock s)

/-- `ack` (46_receiver.md R234). -/
def execAck (body : Bytes) (s : State) : Result := .next (ack body s)

/-- `nack` (46_receiver.md R236). -/
def execNack (code : Word) (frame : Bytes) (s : State) : Result := .next (nack code frame s)

/-- `ACK.V`: the positive response to `V` (30_encoding.md R100, 46_receiver.md R234; log 15). -/
def execAckV (version : Bytes) (s : State) : Result := .next (ack (bodyV version) s)

/-- `ACK.W` (R100, R234). -/
def execAckW (old new lock : Bool) (s : State) : Result := .next (ack (bodyW old new lock) s)

/-- `ACK.S` (R100, R234). -/
def execAckS (index : Word) (old new : Bool) (s : State) : Result := .next (ack (bodyS index old new) s)

/-- `ACK.R` (R100, R234). -/
def execAckR (index : Word) (level : Bool) (s : State) : Result := .next (ack (bodyR index level) s)

/-- `ACK.D` (R100, R234). -/
def execAckD (diagnoses firstError executedTests : Word) (s : State) : Result :=
  .next (ack (bodyD diagnoses firstError executedTests) s)

/-- `ACK.T` (R100, R234). -/
def execAckT (accepted : Bool) (s : State) : Result := .next (ack (bodyT accepted) s)

/-- `NACK`: the negative response with the given quoted text (30_encoding.md R101, 46_receiver.md R236; log 15). -/
def execNackLine (code : Word) (quote : Bytes) (s : State) : Result := .next (nack code quote s)

/-- `NACK.overflow`: the overflow response ends resync (46_receiver.md R223; log 15). -/
def execNackOverflow (s : State) : Result := .next (endResync s)

end Sys2Proof.Machine
end

