-- ==== Sys2Proof/Machine/Dispatch.lean ====
section
/-! DEFINITION. One arm per instruction, in the opcode table's order. -/

namespace Sys2Proof.Machine

def exec (i : Instr) (s : State) : Host.Outcome State Fault Refusal :=
  match i with
  | .reqV fno crc => Sys2Proof.Machine.execReqV fno crc s
  | .reqW fno value crc => Sys2Proof.Machine.execReqW fno value crc s
  | .reqS fno index value crc => Sys2Proof.Machine.execReqS fno index value crc s
  | .reqR fno index crc => Sys2Proof.Machine.execReqR fno index crc s
  | .reqD fno crc => Sys2Proof.Machine.execReqD fno crc s
  | .reqT fno crc => Sys2Proof.Machine.execReqT fno crc s
  | .ackV version => Sys2Proof.Machine.execAckV version s
  | .ackW old new lock => Sys2Proof.Machine.execAckW old new lock s
  | .ackS index old new => Sys2Proof.Machine.execAckS index old new s
  | .ackR index level => Sys2Proof.Machine.execAckR index level s
  | .ackD diagnoses firstError executedTests => Sys2Proof.Machine.execAckD diagnoses firstError executedTests s
  | .ackT accepted => Sys2Proof.Machine.execAckT accepted s
  | .nackLine code quote => Sys2Proof.Machine.execNackLine code quote s
  | .nackOverflow => Sys2Proof.Machine.execNackOverflow s
  | .reset => Sys2Proof.Machine.execReset s
  | .rx b => Sys2Proof.Machine.execRx b s
  | .tick rb levels => Sys2Proof.Machine.execTick rb levels s
  | .burstStart => Sys2Proof.Machine.execBurstStart s
  | .burstIter rb tflag => Sys2Proof.Machine.execBurstIter rb tflag s
  | .crcStep byte running => Sys2Proof.Machine.execCrcStep byte running s
  | .crcWhole buf => Sys2Proof.Machine.execCrcWhole buf s
  | .setError n => Sys2Proof.Machine.execSetError n s
  | .setDiagnoses mask => Sys2Proof.Machine.execSetDiagnoses mask s
  | .setExecutedTest mask => Sys2Proof.Machine.execSetExecutedTest mask s
  | .getError => Sys2Proof.Machine.execGetError s
  | .getDiagnoses => Sys2Proof.Machine.execGetDiagnoses s
  | .getExecutedTests => Sys2Proof.Machine.execGetExecutedTests s
  | .watchdogSet v => Sys2Proof.Machine.execWatchdogSet v s
  | .enterError code => Sys2Proof.Machine.execEnterError code s
  | .watchdogTick => Sys2Proof.Machine.execWatchdogTick s
  | .forceError => Sys2Proof.Machine.execForceError s
  | .trigger rb => Sys2Proof.Machine.execTrigger rb s
  | .running => Sys2Proof.Machine.execRunning s
  | .lockRequired => Sys2Proof.Machine.execLockRequired s
  | .selftestHandler rb => Sys2Proof.Machine.execSelftestHandler rb s
  | .sample expected rb => Sys2Proof.Machine.execSample expected rb s
  | .fail code => Sys2Proof.Machine.execFail code s
  | .requestSelfTest => Sys2Proof.Machine.execRequestSelfTest s
  | .enter target => Sys2Proof.Machine.execEnter target s
  | .handleFrame frame => Sys2Proof.Machine.execHandleFrame frame s
  | .parseU16 token => Sys2Proof.Machine.execParseU16 token s
  | .dec n => Sys2Proof.Machine.execDec n s
  | .ack body => Sys2Proof.Machine.execAck body s
  | .nack code frame => Sys2Proof.Machine.execNack code frame s
  | .quoted frame => Sys2Proof.Machine.execQuoted frame s

end Sys2Proof.Machine
end

