-- ==== Sys2Proof/Machine/Step.lean ====
section
/-! DEFINITION. One step of the machine: the next pending event (00_scope.md R12, 20_memory.md R63; log 1). -/

namespace Sys2Proof.Machine

/-- One step: the oldest pending event is taken and its row is executed. "The block changes state only in an event" (R12):
with no event pending nothing changes. -/
def step (s : State) : Host.Outcome State Fault Refusal :=
  match s.pending with
  | [] => .next s
  | e :: rest => exec e.toInstr (s.withPending rest)

/-- `s` with the frame of a table word received and its terminator about to arrive, no burst running: the next step handles
exactly that frame (log 2). -/
def State.withFetchWord (s : State) (nbits w : Nat) : State :=
  ((s.withReceiver (s.receiver.load (tableFrame nbits w))).withBurst { s.burst with phase := .idle }).withPending
    (.rx lf :: s.pending)

end Sys2Proof.Machine
end

