-- ==== Sys2Proof/Safety.lean ====
section
/-! DEFINITION. The terms the statements use: the invariants of the state between events (10_state.md R48), the ranges of
its counters (R26 to R46), which events the environment may raise, and runs of the machine. -/

namespace Sys2Proof.Safety

open Sys2Proof.Machine

/-- The invariants (a) to (g) of 10_state.md R48, in the rule's order; (f) with the range of `request_index` that R37 gives,
without which no step would keep it. -/
abbrev StateInvariant (s : State) : Prop :=
  (s.watchdog.state = .ok ↔ s.watchdog.counter > 0)
  ∧ (s.watchdog.state = .init → s.watchdog.counter = 0 ∧ s.watchdog.resetLockCounter = 0)
  ∧ (s.watchdog.state = .ok → s.watchdog.resetLockCounter = 30000)
  ∧ (s.selfTest.testState = .failed → s.watchdog.state = .error)
  ∧ s.selfTest.confirmationFlag = false
  ∧ (s.receiver.overflow = true → s.receiver.requestIndex = 20)
  ∧ s.receiver.requestIndex ≤ 20
  ∧ (s.cyclic.lockPinLocked = true ↔ s.pins.lockPin = .drivenHigh)
  ∧ s.pins.lockPin ≠ .drivenLow

/-- The ranges of the counters between events. `polling_timeout` is 0 in `Failed` alone (log 11). The pull-up of a released
`LOCK` pin is off (log 9). -/
abbrev RangeInvariant (s : State) : Prop :=
  s.watchdog.counter ≤ 60000
  ∧ s.watchdog.resetLockCounter ≤ 30000
  ∧ (1 ≤ s.selfTest.stateTicks ∧ s.selfTest.stateTicks ≤ 5)
  ∧ s.selfTest.pollingTimeout ≤ 10000
  ∧ (s.selfTest.testState ≠ .failed → 1 ≤ s.selfTest.pollingTimeout)
  ∧ s.selfTest.remainingUntilNextTest ≤ 360000000
  ∧ (s.selfTest.testState = .passed → 1 ≤ s.selfTest.remainingUntilNextTest)
  ∧ s.receiver.requestIndex ≤ 20
  ∧ s.cyclic.ledTicks < 2000
  ∧ s.burst.timeout ≤ 10000
  ∧ (s.burst.phase = .phaseA → s.burst.low < 5 ∧ s.burst.high = 0 ∧ 1 ≤ s.burst.timeout)
  ∧ (s.burst.phase = .phaseB → s.burst.low = 5 ∧ s.burst.high < 500)
  ∧ s.burst.low ≤ 5
  ∧ s.burst.high ≤ 500
  ∧ s.burst.timerFlag = false
  ∧ (s.cyclic.lockPinLocked = false → s.pins.lockPin = .hiZ ∧ s.pins.lockPullUp = false)
  ∧ (s.cyclic.lockPinLocked = true → s.pins.lockPin = .drivenHigh)

/-- The environment may raise the event in this state (20_memory.md R68, 45_retrigger_burst.md R211, R215, R216): `RESET` at
any time, `BURST_ITER` while a burst runs, everything else while none runs. -/
abbrev enabled (e : Event) (s : State) : Prop :=
  match e with
  | .reset => True
  | .burstIter _ _ => s.burst.phase ≠ .idle
  | .rx _ => s.burst.phase = .idle
  | .tick _ _ => s.burst.phase = .idle
  | .burstStart => s.burst.phase = .idle

/-- The event is the arrival of a terminator byte (30_encoding.md R91). -/
def isTerminatorEvent : Event → Bool
  | .rx b => b == 0x0A || b == 0x00
  | .reset => false
  | .tick _ _ => false
  | .burstStart => false
  | .burstIter _ _ => false

/-- A run of `TICK` events with these samples. -/
def tickEvents (samples : List (Bool × Vector Bool 4)) : List Event := samples.map (fun p => .tick p.1 p.2)

/-- `k` steps of the machine. -/
abbrev run (k : Nat) (s : State) : Host.Outcome State Fault Refusal := Host.Core.run Sys2Proof.core k s

end Sys2Proof.Safety
end

