-- ==== Sys2Proof/Certificates/Slice0/Obligations.lean ====
section
/-! DEFINITION. The statements about the model, for the provers. `log <n>` is an entry of notes/assumptions. -/

open Sys2Proof Sys2Proof.Machine Sys2Proof.Safety

/-! ### CRC and numbers -/

/-- 40_crc.md R131: eight reflected shifts of the running value XORed with the byte, total on all inputs; and "the result
depends on both operands in full", `crc_step(b, r) = crc_step(0, r ^ zext_16(b))`. -/
def Obligations.CrcStepIsEightReflectedShifts : Prop :=
  ∀ (byte : Byte) (running : Word) (s : State),
    exec (.crcStep byte running) s =
        .next { s with
          ret := .word ((fun c : Word => if c &&& 1 = 1 then (c >>> 1) ^^^ 0x8408 else c >>> 1)^[8]
            (running ^^^ byte.setWidth 16)) }
      ∧ crcStep byte running = crcStep 0 (running ^^^ byte.setWidth 16)

/-- 40_crc.md R132: `crc_step` folded over the string from 0xFFFF, then the final XOR; 0 on the empty string. -/
def Obligations.CrcWholeFoldsCrcStep : Prop :=
  ∀ (buf : Bytes) (s : State),
    exec (.crcWhole buf) s =
        .next { s with ret := .word (buf.foldl (fun c b => crcStep b c) 0xFFFF ^^^ 0xFFFF) }
      ∧ crcWhole [] = 0

/-- A CRC-16/X.25 tells two strings apart that differ in one byte, whatever stands around it (a consequence of R131 and
R132 the spec does not write down). -/
def Obligations.CrcSeparatesStringsOneByteApart : Prop :=
  ∀ (before after : Bytes) (a b : Byte),
    a ≠ b → crcWhole (before ++ a :: after) ≠ crcWhole (before ++ b :: after)

/-- 30_encoding.md section 2, `parse_u16`: a token is accepted exactly when it is non-empty, all digits, and its decimal value
is at most 65535; the value is returned. The empty token and leading zeros are D8's choice. -/
def Obligations.ParseU16AcceptsDecimalsUpTo65535 : Prop :=
  ∀ (t : Bytes) (s : State),
    exec (.parseU16 t) s =
      .next { s with
        ret := .parsed
          (if t ≠ [] ∧ (∀ d ∈ t, 0x30 ≤ d.toNat ∧ d.toNat ≤ 0x39)
              ∧ t.foldl (fun v d => v * 10 + (d.toNat - 0x30)) 0 ≤ 65535
            then some (BitVec.ofNat 16 (t.foldl (fun v d => v * 10 + (d.toNat - 0x30)) 0))
            else none) }

/-- 30_encoding.md section 2, `dec`: one to five digits, no leading zero but in `0` itself, and `parse_u16` gives the number
back (the source's P3; the minimal form is D9's choice). -/
def Obligations.DecIsMinimalAndParsesBack : Prop :=
  ∀ (n : Word) (s : State), ∃ l : Bytes,
    exec (.dec n) s = .next { s with ret := .bytes l }
      ∧ 1 ≤ l.length ∧ l.length ≤ 5
      ∧ (∀ d ∈ l, 0x30 ≤ d.toNat ∧ d.toNat ≤ 0x39)
      ∧ (l.head? = some 0x30 → l = [0x30])
      ∧ exec (.parseU16 l) s = .next { s with ret := .parsed (some n) }

/-- 46_receiver.md section 3, `quoted`: the bytes in 0x20..0x7E, in order, the rest dropped (D11's choice). -/
def Obligations.QuotedKeepsPrintableBytes : Prop :=
  ∀ (f : Bytes) (s : State),
    exec (.quoted f) s =
      .next { s with ret := .bytes (f.filter (fun b => decide (0x20 ≤ b.toNat ∧ b.toNat ≤ 0x7E))) }

/-! ### Error and diagnosis store -/

/-- 41_error_store.md, the three setters: the latch is assigned only if it holds `None` (0 by D37); each mask is ORed into its
own accumulator. -/
def Obligations.SettersLatchFirstErrorAndOrMasks : Prop :=
  ∀ (n : Word) (s : State),
    (s.errors.errorNumber = 0 →
        exec (.setError n) s = .next { s with errors := { s.errors with errorNumber := n } })
      ∧ (s.errors.errorNumber ≠ 0 → exec (.setError n) s = .next s)
      ∧ exec (.setDiagnoses n) s =
        .next { s with errors := { s.errors with diagnoses := s.errors.diagnoses ||| n } }
      ∧ exec (.setExecutedTest n) s =
        .next { s with errors := { s.errors with executedTests := s.errors.executedTests ||| n } }

/-- 41_error_store.md R144 and R146, and the same for `get_diagnoses`: a read returns the value and clears it alone, so that a
second read returns 0. -/
def Obligations.GettersReadThenClear : Prop :=
  ∀ s : State,
    exec .getError s =
        .next { s with errors := { s.errors with errorNumber := 0 }, ret := .word s.errors.errorNumber }
      ∧ exec .getExecutedTests s =
        .next { s with errors := { s.errors with executedTests := 0 }, ret := .word s.errors.executedTests }
      ∧ exec .getDiagnoses s =
        .next { s with errors := { s.errors with diagnoses := 0 }, ret := .word s.errors.diagnoses }
      ∧ (∀ t : State, exec .getError s = .next t → exec .getError t = .next { t with ret := .word 0 })
      ∧ (∀ t : State, exec .getExecutedTests s = .next t →
        exec .getExecutedTests t = .next { t with ret := .word 0 })
      ∧ ∀ t : State, exec .getDiagnoses s = .next t → exec .getDiagnoses t = .next { t with ret := .word 0 }

/-! ### Watchdog core -/

/-- 42_watchdog.md section 1, `watchdog.set`, by state. The reset-lock counter on `Ok -> Ok` and its stop at 0 are D18's. -/
def Obligations.WatchdogSetFollowsTheTable : Prop :=
  ∀ (v : Word) (s : State),
    (s.watchdog.state = .init → v ≠ 0 →
        exec (.watchdogSet v) s =
          .next { s with watchdog := { state := .ok, counter := 60000, resetLockCounter := 30000 } })
      ∧ (s.watchdog.state = .init → v = 0 →
        exec (.watchdogSet v) s = .next { s with watchdog := { s.watchdog with counter := 0 } })
      ∧ (s.watchdog.state = .ok → v ≠ 0 →
        exec (.watchdogSet v) s = .next { s with watchdog := { s.watchdog with counter := 60000 } })
      ∧ (s.watchdog.state = .ok → v = 0 →
        exec (.watchdogSet v) s =
          .next { s with
            watchdog := { state := .error, counter := 0, resetLockCounter := s.watchdog.resetLockCounter - 1 }
            errors :=
              { s.errors with
                errorNumber := if s.errors.errorNumber = 0 then 0x1001 else s.errors.errorNumber } })
      ∧ (s.watchdog.state = .error → exec (.watchdogSet v) s = .next s)

/-- 42_watchdog.md sections 1 and 3: `enter_error`, the entry of a fault (the stop of the reset-lock counter at 0 is D18's), and
`force_error`, which is that entry with no code from `Init` and `Ok` (D20) and nothing in `Error`. -/
def Obligations.FaultEntryLatchesCodeAndStartsGrace : Prop :=
  ∀ (code : Option Word) (s : State),
    exec (.enterError code) s =
        .next { s with
          watchdog := { state := .error, counter := 0, resetLockCounter := s.watchdog.resetLockCounter - 1 }
          errors :=
            { s.errors with
              errorNumber :=
                if s.errors.errorNumber = 0 then code.getD s.errors.errorNumber else s.errors.errorNumber } }
      ∧ (s.watchdog.state ≠ .error →
        exec .forceError s =
          .next { s with
            watchdog :=
              { state := .error, counter := 0, resetLockCounter := s.watchdog.resetLockCounter - 1 } })
      ∧ (s.watchdog.state = .error → exec .forceError s = .next s)

/-- 42_watchdog.md section 1, `watchdog.tick`, by state: the countdown, its two faults, the grace period of `Error` (read so
by C3 and D19), nothing in `Init`. -/
def Obligations.WatchdogTickCountsDown : Prop :=
  ∀ s : State,
    (s.watchdog.state = .ok → 1 < s.watchdog.counter →
        exec .watchdogTick s = .next { s with watchdog := { s.watchdog with counter := s.watchdog.counter - 1 } })
      ∧ (s.watchdog.state = .ok → s.watchdog.counter = 1 →
        exec .watchdogTick s = exec (.enterError (some 0x1000)) s)
      ∧ (s.watchdog.state = .ok → s.watchdog.counter = 0 →
        exec .watchdogTick s = exec (.enterError (some 0x1002)) s)
      ∧ (s.watchdog.state = .error →
        exec .watchdogTick s =
          .next { s with
            watchdog := { s.watchdog with resetLockCounter := s.watchdog.resetLockCounter - 1 } })
      ∧ (s.watchdog.state = .init → exec .watchdogTick s = .next s)

/-- 42_watchdog.md section 5: `running` and `lock_required` read the triple and change nothing (their meaning is D16's). -/
def Obligations.RunningAndLockRequiredReadTheTriple : Prop :=
  ∀ s : State,
    exec .running s = .next { s with ret := .bool (decide (s.watchdog.state = .ok)) }
      ∧ exec .lockRequired s = .next { s with ret := .bool (decide (s.watchdog.resetLockCounter ≠ 0)) }

/-- 42_watchdog.md R157: the self-test handler, then the watchdog's tick, then the flag is read and consumed whatever the
counter is, and the gate is `(counter > 0) and c` on the counter the tick left. -/
def Obligations.TriggerRunsHandlerThenTickThenGate : Prop :=
  ∀ (rb : Bool) (s : State), ∃ s1 s2 : State,
    exec (.selftestHandler rb) s = .next s1
      ∧ exec .watchdogTick s1 = .next s2
      ∧ exec (.trigger rb) s =
        .next { s2 with
          selfTest := { s2.selfTest with confirmationFlag := false }
          ret := .bool (decide (s2.watchdog.counter > 0) && s2.selfTest.confirmationFlag) }

/-! ### Self-test -/

/-- 43_selftest.md section 1, `sample`: the consecutive-sample window, success before timeout (D21). That a counter of 0, which
no run reaches, counts like 1 is log 10's (with D4). -/
def Obligations.SampleCountsConsecutiveMatches : Prop :=
  ∀ (expected rb : Bool) (s : State),
    (rb = expected → s.selfTest.stateTicks ≤ 1 →
        exec (.sample expected rb) s =
          .next { s with selfTest := { s.selfTest with stateTicks := 0 }, ret := .sample .success })
      ∧ (rb = expected → 1 < s.selfTest.stateTicks →
        exec (.sample expected rb) s =
          .next { s with
            selfTest :=
              { s.selfTest with
                stateTicks := s.selfTest.stateTicks - 1, pollingTimeout := s.selfTest.pollingTimeout - 1 }
            ret := .sample (if s.selfTest.pollingTimeout ≤ 1 then .timeout else .pending) })
      ∧ (rb ≠ expected →
        exec (.sample expected rb) s =
          .next { s with
            selfTest :=
              { s.selfTest with stateTicks := 5, pollingTimeout := s.selfTest.pollingTimeout - 1 }
            ret := .sample (if s.selfTest.pollingTimeout ≤ 1 then .timeout else .pending) })

/-- 43_selftest.md section 1, states `Initial` and `RepeatedExpectOff`: both expect LOW; on success the test's mask is recorded,
confirmation is set, `Passed` is entered with a new interval; on timeout the state's code fails the test; else only the
window moves. -/
def Obligations.ExpectLowStatesPassOrFail : Prop :=
  ∀ (rb : Bool) (s : State) (mask code : Word),
    (s.selfTest.testState = .initial ∧ mask = s.params.testInitial ∧ code = 0x0001
      ∨ s.selfTest.testState = .repeatedExpectOff ∧ mask = s.params.testRepeated ∧ code = 0x0003) →
    ∃ (u : State) (r : SampleResult), exec (.sample false rb) s = .next u ∧ u.ret = .sample r
      ∧ (r = .success →
          exec (.selftestHandler rb) s =
            .next { s with
              errors := { s.errors with executedTests := s.errors.executedTests ||| mask }
              selfTest :=
                { s.selfTest with
                  testState := .passed, stateTicks := 5, pollingTimeout := 10000,
                  remainingUntilNextTest := 360000000, confirmationFlag := true } })
        ∧ (r = .timeout →
          exec (.selftestHandler rb) s = exec (.fail code) { s with selfTest := u.selfTest })
        ∧ (r = .pending → exec (.selftestHandler rb) s = .next { s with selfTest := u.selfTest })

/-- 43_selftest.md section 1, state `Passed`: confirmation each tick; a request starts the repeated test; else the interval
counts down and its end fails the test with code 4. -/
def Obligations.PassedConfirmsAndCountsDown : Prop :=
  ∀ (rb : Bool) (s : State), s.selfTest.testState = .passed →
    (s.selfTest.requestFlag = true →
        exec (.selftestHandler rb) s =
          .next { s with
            selfTest :=
              { s.selfTest with
                testState := .repeatedExpectOn, stateTicks := 5, pollingTimeout := 10000, requestFlag := false,
                confirmationFlag := true } })
      ∧ (s.selfTest.requestFlag = false → 1 < s.selfTest.remainingUntilNextTest →
        exec (.selftestHandler rb) s =
          .next { s with
            selfTest :=
              { s.selfTest with
                remainingUntilNextTest := s.selfTest.remainingUntilNextTest - 1, confirmationFlag := true } })
      ∧ (s.selfTest.requestFlag = false → s.selfTest.remainingUntilNextTest = 1 →
        exec (.selftestHandler rb) s =
          exec (.fail 0x0004)
            { s with selfTest := { s.selfTest with remainingUntilNextTest := 0, confirmationFlag := true } })

/-- 43_selftest.md section 1, state `RepeatedExpectOn`: confirmation is set on every tick of the state, the tick of success
included; on success `RepeatedExpectOff` is entered; on timeout the test fails with code 2. Success before timeout and the
reload of `polling_timeout` on entry are D21's (log 24). -/
def Obligations.RepeatedExpectOnConfirmsAndExpectsHigh : Prop :=
  ∀ (rb : Bool) (s : State), s.selfTest.testState = .repeatedExpectOn →
    ∃ (u : State) (r : SampleResult),
      exec (.sample true rb) { s with selfTest := { s.selfTest with confirmationFlag := true } } = .next u
      ∧ u.ret = .sample r
      ∧ (r = .success →
          exec (.selftestHandler rb) s =
            .next { s with
              selfTest :=
                { s.selfTest with
                  testState := .repeatedExpectOff, stateTicks := 5, pollingTimeout := 10000,
                  confirmationFlag := true } })
        ∧ (r = .timeout →
          exec (.selftestHandler rb) s = exec (.fail 0x0002) { s with selfTest := u.selfTest })
        ∧ (r = .pending → exec (.selftestHandler rb) s = .next { s with selfTest := u.selfTest })

/-- 43_selftest.md R176, state `Failed`: the handler only forces the watchdog into `Error`; confirmation is not set; and no step
but a `RESET` leaves the state. -/
def Obligations.FailedIsTerminalAndForcesError : Prop :=
  (∀ (rb : Bool) (s : State), s.selfTest.testState = .failed →
      exec (.selftestHandler rb) s = exec .forceError s
        ∧ ∃ t : State, exec (.selftestHandler rb) s = .next t ∧ t.watchdog.state = .error ∧ t.selfTest = s.selfTest)
    ∧ (∀ s t : State, s.selfTest.testState = .failed → (∀ rest, s.pending ≠ .reset :: rest) →
      step s = .next t → t.selfTest.testState = .failed)

/-- 43_selftest.md section 2, `fail`: the code to the latch, `Failed`, and the watchdog forced in the same action (D20). -/
def Obligations.FailLatchesCodeAndForcesError : Prop :=
  ∀ (code : Word) (s : State),
    exec (.fail code) s =
      .next { s with
        errors :=
          { s.errors with errorNumber := if s.errors.errorNumber = 0 then code else s.errors.errorNumber }
        selfTest := { s.selfTest with testState := .failed }
        watchdog :=
          if s.watchdog.state = .error then s.watchdog
          else { state := .error, counter := 0, resetLockCounter := s.watchdog.resetLockCounter - 1 } }

/-- 43_selftest.md section 2, `request_self_test` (the flag only on success: D22) and `enter` (both counters: D21). -/
def Obligations.RequestSelfTestAndEnterWriteTheirRegisters : Prop :=
  ∀ (target : TestState) (s : State),
    (s.selfTest.testState = .passed →
        exec .requestSelfTest s =
          .next { s with selfTest := { s.selfTest with requestFlag := true }, ret := .bool true })
      ∧ (s.selfTest.testState ≠ .passed → exec .requestSelfTest s = .next { s with ret := .bool false })
      ∧ exec (.enter target) s =
        .next { s with
          selfTest := { s.selfTest with testState := target, stateTicks := 5, pollingTimeout := 10000 } }

/-! ### Frames, responses, commands -/

/-- 30_encoding.md R92 to R99: the decoder reads back every well-formed request from the frame the encoder writes. -/
def Obligations.DecodeOfEncodeIsTheRequest : Prop :=
  ∀ (i : Instr) (f : Bytes), wellFormed i = true → encode i = some f → decode f = .ok i ∧ f.length ≤ 20

/-- And no frame is read as another one: the encoder writes back the very bytes that decode to a request. -/
def Obligations.EncodeOfDecodeIsTheFrame : Prop :=
  ∀ (i : Instr) (f : Bytes), decode f = .ok i → encode i = some f ∧ (f.length ≤ 20 → wellFormed i = true)

/-- 30_encoding.md R100 to R103: a host that applies the block's own coverage rule reads every response line back: ACK, NACK
(the quoted request may itself hold `;`) and overflow. -/
def Obligations.DecodeLineOfEncodeLineIsTheResponse : Prop :=
  ∀ (fno : Word) (i : Instr) (line : Bytes),
    wellFormed i = true → encodeLine fno i = some line → decodeLine line = some (fno, i)

/-- Words written out from the spec: three of the source's and spec's frames and one response line decode to what they stand
for (95_test_vectors.md sections 1 and 2). -/
def Obligations.SpecFramesDecodeAsWritten : Prop :=
  decode [0x30, 0x3B, 0x56, 0x3B, 0x35, 0x39, 0x37, 0x31, 0x3B] = .ok (.reqV [0x30] [0x35, 0x39, 0x37, 0x31])
    ∧ decode [0x31, 0x3B, 0x57, 0x3B, 0x31, 0x3B, 0x34, 0x33, 0x36, 0x31, 0x32, 0x3B] =
      .ok (.reqW [0x31] [0x31] [0x34, 0x33, 0x36, 0x31, 0x32])
    ∧ decode [0x32, 0x3B, 0x53, 0x3B, 0x30, 0x3B, 0x31, 0x3B, 0x35, 0x35, 0x37, 0x32, 0x35, 0x3B] =
      .ok (.reqS [0x32] [0x30] [0x31] [0x35, 0x35, 0x37, 0x32, 0x35])
    ∧ decodeLine [0x30, 0x3B, 0x45, 0x3B, 0x38, 0x3B, 0x33, 0x33, 0x37, 0x32, 0x30, 0x3B, 0x0A] =
      some (0, .nackOverflow)

/-- 46_receiver.md R234: the line starts with the frame number before the increment, carries the body and its own CRC, and
the number advances modulo 65536. -/
def Obligations.AckSendsLineAndAdvancesFrameNumber : Prop :=
  ∀ (body : Bytes) (s : State),
    let l := dec s.receiver.nextExpectedFrameNumber ++ [0x3B] ++ body
    exec (.ack body) s =
      .next { s with
        receiver :=
          { s.receiver with
            nextExpectedFrameNumber :=
              BitVec.ofNat 16 ((s.receiver.nextExpectedFrameNumber.toNat + 1) % 65536) }
        sent := s.sent ++ [l ++ dec (crcWhole l) ++ [0x3B, 0x0A]] }

/-- 46_receiver.md section 3, `nack`: the mask of the code goes into `diagnoses`, the line quotes the frame (D11: the printable
bytes) and ends with its own CRC (D10, C4), and nothing else is written. That the row `NACK`, run on its own for a printable
text, is this action is the model's choice (log 15); an unprintable text makes an ill-formed term, which is not stated here. -/
def Obligations.NackSendsQuotedLineOnly : Prop :=
  ∀ (code : Word) (f : Bytes) (s : State),
    let l := dec s.receiver.nextExpectedFrameNumber ++ [0x3B, 0x45, 0x3B] ++ dec code ++ [0x3B, 0x5B]
      ++ quoted f ++ [0x5D, 0x3B]
    let t : State :=
      { s with
        errors := { s.errors with diagnoses := s.errors.diagnoses ||| s.params.nackMask code }
        sent := s.sent ++ [l ++ dec (crcWhole l) ++ [0x3B, 0x0A]] }
    exec (.nack code f) s = .next t ∧ exec (.nackLine code (quoted f)) s = .next t

/-- 46_receiver.md section 1, the terminator that ends resync: one overflow line, resync over, buffer empty, the frame number
as it was. `RX` of either terminator does this in resync; that the row `NACK.overflow`, run on its own, is this action is the
model's choice (log 15). -/
def Obligations.OverflowTerminatorSendsOneNack : Prop :=
  ∀ (b : Byte) (s : State),
    let l := dec s.receiver.nextExpectedFrameNumber ++ [0x3B, 0x45, 0x3B, 0x38, 0x3B]
    exec .nackOverflow s =
        .next { s with
          receiver := { s.receiver with overflow := false, requestIndex := 0 }
          errors := { s.errors with diagnoses := s.errors.diagnoses ||| s.params.nackMask 8 }
          sent := s.sent ++ [l ++ dec (crcWhole l) ++ [0x3B, 0x0A]] }
      ∧ (s.burst.phase = .idle → s.receiver.overflow = true → (b = 0x0A ∨ b = 0x00) →
        exec (.rx b) s = exec .nackOverflow s)

/-- 30_encoding.md section 3, the positive response rows: each sends the line its row encodes, with the frame number before the
increment, and advances the number; nothing else changes (log 15). -/
def Obligations.PositiveResponsesSendTheirLine : Prop :=
  ∀ (i : Instr) (version : Bytes) (a b c : Bool) (x y z : Word) (s : State),
    i = .ackV version ∨ i = .ackW a b c ∨ i = .ackS x a b ∨ i = .ackR x a ∨ i = .ackD x y z ∨ i = .ackT a →
    ∃ line : Bytes,
      encodeLine s.receiver.nextExpectedFrameNumber i = some line
        ∧ exec i s =
          .next { s with
            receiver :=
              { s.receiver with nextExpectedFrameNumber := s.receiver.nextExpectedFrameNumber + 1 }
            sent := s.sent ++ [line] }

/-- 46_receiver.md section 2, `handle_frame`: the checks in their order (D7's choice), the codes being parameters (log 3). A
frame that no request decodes from is refused after the frame number and the CRC were looked at, if it has them. -/
def Obligations.HandleFrameNacksFirstFailingCheck : Prop :=
  ∀ (f : Bytes) (s : State),
    (decode f = .error .malformed → exec (.handleFrame f) s = exec (.nack s.params.eInvalidFrame f) s)
      ∧ (∀ (r : RawFrame) (n c : Word) (args : List Word),
        tokenise f = some r → parseU16 r.fno = some n → parseAll r.payload = some args → parseU16 r.crc = some c →
          (n ≠ s.receiver.nextExpectedFrameNumber → exec (.handleFrame f) s = exec (.nack 4 f) s)
            ∧ (n = s.receiver.nextExpectedFrameNumber → c ≠ crcWhole (crcCover f r.crc) →
              exec (.handleFrame f) s = exec (.nack s.params.eInvalidCrc f) s)
            ∧ (n = s.receiver.nextExpectedFrameNumber → c = crcWhole (crcCover f r.crc) →
              (decode f = .error .unknownCommand →
                  exec (.handleFrame f) s = exec (.nack s.params.eInvalidCommand f) s)
                ∧ (decode f = .error .wrongArity →
                  exec (.handleFrame f) s = exec (.nack s.params.eInvalidFrame f) s)))

/-- The frame handler runs exactly the request the decoder reads: `handle_frame` of a frame is the meaning of its row. -/
def Obligations.HandleFrameRunsTheDecodedRequest : Prop :=
  ∀ (f : Bytes) (i : Instr) (s : State), decode f = .ok i → exec (.handleFrame f) s = exec i s

/-- 46_receiver.md section 3, a NACK changes nothing: every frame whatever is answered at once (D12). Either the frame decodes to
a request, its handling is that request's meaning, the line starts with the frame number and one of the six command letters
(which of them each request answers with stands in the statements of the six requests), and the frame number advances by one; or the handling is `nack` with one of the seven codes of a frame (five of them parameters, D5,
log 3), the line starts with the frame number and `E`, and all that changes is `diagnoses`, by the mask of the code, and that
one line. By default every mask is 0 (D14). -/
def Obligations.EveryFrameIsAckedOrChangesNothing : Prop :=
  (∀ (f : Bytes) (s : State), ∃ (t : State) (line rest : Bytes),
      exec (.handleFrame f) s = .next t ∧ t.sent = s.sent ++ [line]
        ∧ ((∃ (i : Instr) (cmd : Command),
              decode f = .ok i ∧ exec (.handleFrame f) s = exec i s
                ∧ line = dec s.receiver.nextExpectedFrameNumber ++ [0x3B, commandLetter cmd, 0x3B] ++ rest
                ∧ t.receiver.nextExpectedFrameNumber = s.receiver.nextExpectedFrameNumber + 1)
          ∨ ∃ code : Word,
              code ∈ [s.params.eInvalidFrame, s.params.eInvalidCommand, s.params.eInvalidCrc, 4,
                  s.params.eInvalidStartup, 6, s.params.eInvalidValue]
                ∧ exec (.handleFrame f) s = exec (.nack code f) s
                ∧ line = dec s.receiver.nextExpectedFrameNumber ++ [0x3B, 0x45, 0x3B] ++ rest
                ∧ t = { s with
                  errors := { s.errors with diagnoses := s.errors.diagnoses ||| s.params.nackMask code }
                  sent := s.sent ++ [line] }))
    ∧ ∀ code : Word, Config.Params.defaults.nackMask code = 0

/-- 47_commands.md R250: an accepted `V` opens the version gate and answers the version, in any watchdog state. -/
def Obligations.RequestVOpensGateAndSendsVersion : Prop :=
  ∀ (fno crc : Bytes) (s : State),
    parseU16 fno = some s.receiver.nextExpectedFrameNumber →
    parseU16 crc = some (crcWhole (fno ++ [0x3B, 0x56, 0x3B])) →
      exec (.reqV fno crc) s =
        .next { s with
          receiver :=
            { s.receiver with
              versionGate := true, nextExpectedFrameNumber := s.receiver.nextExpectedFrameNumber + 1 }
          sent := s.sent ++
            [responseLine s.receiver.nextExpectedFrameNumber ([0x56, 0x3B] ++ s.params.version ++ [0x3B])] }

/-- 47_commands.md, `W`: through the gate and with a state of 0 or 1 it runs `watchdog.set` and answers running before, running
after, lock required; with the gate closed, or with a value above 1 (D17), it is NACKed. -/
def Obligations.RequestWSetsWatchdogBehindTheGate : Prop :=
  ∀ (fno value crc : Bytes) (v : Word) (s : State),
    parseU16 fno = some s.receiver.nextExpectedFrameNumber →
    parseU16 value = some v →
    parseU16 crc = some (crcWhole (fno ++ [0x3B, 0x57, 0x3B] ++ value ++ [0x3B])) →
    ∃ u : State, exec (.watchdogSet v) s = .next u
      ∧ (s.receiver.versionGate = true → v.toNat ≤ 1 →
          exec (.reqW fno value crc) s =
            .next { u with
              receiver :=
                { s.receiver with nextExpectedFrameNumber := s.receiver.nextExpectedFrameNumber + 1 }
              sent := s.sent ++
                [responseLine s.receiver.nextExpectedFrameNumber
                  ([0x57, 0x3B, if s.watchdog.state = .ok then 0x31 else 0x30, 0x3B,
                    if u.watchdog.state = .ok then 0x31 else 0x30, 0x3B,
                    if u.watchdog.resetLockCounter ≠ 0 then 0x31 else 0x30, 0x3B])] })
        ∧ (s.receiver.versionGate = false →
          exec (.reqW fno value crc) s =
            exec (.nack s.params.eInvalidStartup (fno ++ [0x3B, 0x57, 0x3B] ++ value ++ [0x3B] ++ crc ++ [0x3B])) s)
        ∧ (s.receiver.versionGate = true → 1 < v.toNat →
          exec (.reqW fno value crc) s =
            exec (.nack s.params.eInvalidValue (fno ++ [0x3B, 0x57, 0x3B] ++ value ++ [0x3B] ++ crc ++ [0x3B])) s)

/-- 47_commands.md R252: an accepted `S` stores one slot and answers the old and the new value; index 7 and above is refused
first, with code 6, then a value above 1. No other slot, no pin and not the watchdog is touched. -/
def Obligations.RequestSStoresOneSlot : Prop :=
  ∀ (fno index value crc : Bytes) (i v : Word) (s : State),
    parseU16 fno = some s.receiver.nextExpectedFrameNumber →
    parseU16 index = some i → parseU16 value = some v →
    parseU16 crc = some (crcWhole (fno ++ [0x3B, 0x53, 0x3B] ++ index ++ [0x3B] ++ value ++ [0x3B])) →
      (∀ h : i.toNat < 7, v.toNat ≤ 1 →
          exec (.reqS fno index value crc) s =
            .next { s with
              outputs := s.outputs.set i.toNat (decide (v = 1))
              receiver :=
                { s.receiver with nextExpectedFrameNumber := s.receiver.nextExpectedFrameNumber + 1 }
              sent := s.sent ++
                [responseLine s.receiver.nextExpectedFrameNumber
                  ([0x53, 0x3B] ++ dec i ++ [0x3B, if s.outputs[i.toNat] then 0x31 else 0x30, 0x3B] ++ dec v
                    ++ [0x3B])] })
        ∧ (7 ≤ i.toNat →
          exec (.reqS fno index value crc) s =
            exec (.nack 6
              (fno ++ [0x3B, 0x53, 0x3B] ++ index ++ [0x3B] ++ value ++ [0x3B] ++ crc ++ [0x3B])) s)
        ∧ (i.toNat < 7 → 1 < v.toNat →
          exec (.reqS fno index value crc) s =
            exec (.nack s.params.eInvalidValue
              (fno ++ [0x3B, 0x53, 0x3B] ++ index ++ [0x3B] ++ value ++ [0x3B] ++ crc ++ [0x3B])) s)

/-- 47_commands.md, `R`: the slot's last sample is answered and nothing but the frame number moves; index 4 and above is
refused with code 6 (D17). -/
def Obligations.RequestRReportsOneInput : Prop :=
  ∀ (fno index crc : Bytes) (i : Word) (s : State),
    parseU16 fno = some s.receiver.nextExpectedFrameNumber →
    parseU16 index = some i →
    parseU16 crc = some (crcWhole (fno ++ [0x3B, 0x52, 0x3B] ++ index ++ [0x3B])) →
      (∀ h : i.toNat < 4,
          exec (.reqR fno index crc) s =
            .next { s with
              receiver :=
                { s.receiver with nextExpectedFrameNumber := s.receiver.nextExpectedFrameNumber + 1 }
              sent := s.sent ++
                [responseLine s.receiver.nextExpectedFrameNumber
                  ([0x52, 0x3B] ++ dec i ++ [0x3B, if s.inputs[i.toNat] then 0x31 else 0x30, 0x3B])] })
        ∧ (4 ≤ i.toNat →
          exec (.reqR fno index crc) s =
            exec (.nack 6 (fno ++ [0x3B, 0x52, 0x3B] ++ index ++ [0x3B] ++ crc ++ [0x3B])) s)

/-- 47_commands.md R254: an accepted `D` answers diagnoses, first error and executed tests, in that order, and clears all
three; nothing else but the frame number moves. -/
def Obligations.RequestDReportsAndClears : Prop :=
  ∀ (fno crc : Bytes) (s : State),
    parseU16 fno = some s.receiver.nextExpectedFrameNumber →
    parseU16 crc = some (crcWhole (fno ++ [0x3B, 0x44, 0x3B])) →
      exec (.reqD fno crc) s =
        .next { s with
          errors := { errorNumber := 0, diagnoses := 0, executedTests := 0 }
          receiver :=
            { s.receiver with nextExpectedFrameNumber := s.receiver.nextExpectedFrameNumber + 1 }
          sent := s.sent ++
            [responseLine s.receiver.nextExpectedFrameNumber
              ([0x44, 0x3B] ++ dec s.errors.diagnoses ++ [0x3B] ++ dec s.errors.errorNumber ++ [0x3B]
                ++ dec s.errors.executedTests ++ [0x3B])] }

/-- 47_commands.md, `T`: accepted only in `Passed`, where it sets the request flag; an ACK in every case (D22). -/
def Obligations.RequestTAsksForASelfTest : Prop :=
  ∀ (fno crc : Bytes) (s : State),
    parseU16 fno = some s.receiver.nextExpectedFrameNumber →
    parseU16 crc = some (crcWhole (fno ++ [0x3B, 0x54, 0x3B])) →
      exec (.reqT fno crc) s =
        .next { s with
          selfTest :=
            { s.selfTest with
              requestFlag := decide (s.selfTest.testState = .passed) || s.selfTest.requestFlag }
          receiver :=
            { s.receiver with nextExpectedFrameNumber := s.receiver.nextExpectedFrameNumber + 1 }
          sent := s.sent ++
            [responseLine s.receiver.nextExpectedFrameNumber
              [0x54, 0x3B, if s.selfTest.testState = .passed then 0x31 else 0x30, 0x3B]] }

/-! ### Events -/

/-- 46_receiver.md section 1, `RX` of a data byte: stored at the cursor; at a full buffer the byte is dropped and resync starts
(20 bytes: D13); in resync it is dropped. No line is sent. -/
def Obligations.DataByteIsStoredOrDropped : Prop :=
  ∀ (b : Byte) (s : State), s.burst.phase = .idle → b ≠ 0x0A → b ≠ 0x00 →
    (s.receiver.overflow = false → ∀ h : s.receiver.requestIndex < 20,
        exec (.rx b) s =
          .next { s with
            receiver :=
              { s.receiver with
                buf := s.receiver.buf.set s.receiver.requestIndex b
                requestIndex := s.receiver.requestIndex + 1 } })
      ∧ (s.receiver.overflow = false → s.receiver.requestIndex = 20 →
        exec (.rx b) s = .next { s with receiver := { s.receiver with overflow := true } })
      ∧ (s.receiver.overflow = true → exec (.rx b) s = .next s)

/-- A STEP RUNS THE DECODED REQUEST (46_receiver.md section 1): outside resync and with no burst running, `RX` of either
terminator is `handle_frame` of the bytes in the buffer, the buffer emptied first, whatever these bytes are, no request
included; with that terminator next the step is the same, the event taken; and if the bytes decode to a request, the step is
that request's meaning. -/
def Obligations.StepRunsTheFrameInTheBuffer : Prop :=
  ∀ (b : Byte) (s : State), (b = 0x0A ∨ b = 0x00) → s.burst.phase = .idle → s.receiver.overflow = false →
    exec (.rx b) s =
        exec (.handleFrame (s.receiver.buf.toList.take s.receiver.requestIndex))
          { s with receiver := { s.receiver with requestIndex := 0 } }
      ∧ ∀ rest : List Event, s.pending = .rx b :: rest →
        step s =
            exec (.handleFrame (s.receiver.buf.toList.take s.receiver.requestIndex))
              { s with pending := rest, receiver := { s.receiver with requestIndex := 0 } }
          ∧ ∀ i : Instr, decode (s.receiver.buf.toList.take s.receiver.requestIndex) = .ok i →
            step s = exec i { s with pending := rest, receiver := { s.receiver with requestIndex := 0 } }

/-- A step is the meaning of the oldest pending event, that event taken; with no event pending nothing changes (log 1). -/
def Obligations.StepRunsTheOldestEvent : Prop :=
  ∀ s : State,
    (s.pending = [] → step s = .next s)
      ∧ (∀ rest, s.pending = .reset :: rest → step s = exec .reset { s with pending := rest })
      ∧ (∀ b rest, s.pending = .rx b :: rest → step s = exec (.rx b) { s with pending := rest })
      ∧ (∀ rb levels rest, s.pending = .tick rb levels :: rest →
        step s = exec (.tick rb levels) { s with pending := rest })
      ∧ (∀ rest, s.pending = .burstStart :: rest → step s = exec .burstStart { s with pending := rest })
      ∧ (∀ rb tflag rest, s.pending = .burstIter rb tflag :: rest →
        step s = exec (.burstIter rb tflag) { s with pending := rest })

/-- The machine stops exactly on an event the environment does not raise (45_retrigger_burst.md sections on `BURST_START`,
`finish` and exclusion, D27's choice; log 4), and refuses nothing. -/
def Obligations.StepStopsOnlyOnExcludedEvents : Prop :=
  ∀ s : State,
    (∀ r, step s ≠ .refused r)
      ∧ ((∃ f, step s = .fault f) ↔ ∃ e rest, s.pending = e :: rest ∧ ¬ enabled e s)

/-- Each event the environment does not raise stops under its own name (45_retrigger_burst.md, D27's choice; log 4): `RX`,
`TICK` and `BURST_START` while a burst runs, `BURST_ITER` while none runs. -/
def Obligations.ExcludedEventsStopByName : Prop :=
  ∀ (b : Byte) (rb tflag : Bool) (levels : Vector Bool 4) (s : State),
    (s.burst.phase ≠ .idle →
        exec (.rx b) s = .fault .rxDuringBurst
          ∧ exec (.tick rb levels) s = .fault .tickDuringBurst
          ∧ exec .burstStart s = .fault .burstStartWhileRunning)
      ∧ (s.burst.phase = .idle → exec (.burstIter rb tflag) s = .fault .burstIterWhileIdle)

/-- 44_cyclic_task.md sections on steps 1 to 3 and 6, and the frame of a `TICK`: what `trigger` makes of the state before the
tick decides the watchdog, the self-test, the error store and the relay pin; `high_cycle` toggles; the inputs are the samples;
receiver, `outputs[]`, burst and sent lines are unchanged (the fresh readback is D23's, the pin's level D24's). -/
def Obligations.TickRunsTriggerAndDrivesRelay : Prop :=
  ∀ (rb : Bool) (levels : Vector Bool 4) (s : State), s.burst.phase = .idle →
    ∃ (u : State) (p : Bool) (t : State),
      exec (.trigger rb) s = .next u ∧ u.ret = .bool p ∧ exec (.tick rb levels) s = .next t
        ∧ t.watchdog = u.watchdog ∧ t.selfTest = u.selfTest ∧ t.errors = u.errors
        ∧ t.cyclic.highCycle = !s.cyclic.highCycle
        ∧ t.pins.wdPin = (p && !s.cyclic.highCycle)
        ∧ t.inputs = levels
        ∧ t.outputs = s.outputs ∧ t.receiver = s.receiver ∧ t.burst = s.burst ∧ t.params = s.params
        ∧ t.ret = s.ret ∧ t.pending = s.pending ∧ t.sent = s.sent

/-- 44_cyclic_task.md R196: after a tick, `OUT_i` is HIGH exactly when the watchdog is `Ok`, the slot is on, and the pin is
steady or at the HIGH half of the cycle; the slots themselves are unchanged; the seven pins are written once each, in index
order, and `WD`, which the loop never touches, once in the whole tick. -/
def Obligations.TickDrivesOutputsOnlyInOk : Prop :=
  ∀ (rb : Bool) (levels : Vector Bool 4) (s : State), s.burst.phase = .idle →
    ∃ t : State, exec (.tick rb levels) s = .next t
      ∧ t.outputs = s.outputs
      ∧ (∀ i : Fin 7, t.pins.outPin[i] =
          (decide (t.watchdog.state = .ok) && s.outputs[i] && (t.cyclic.highCycle || decide (3 ≤ i.val))))
      ∧ t.gpio.filter (fun op => match op with | .write (.out _) _ => true | _ => false) =
        s.gpio.filter (fun op => match op with | .write (.out _) _ => true | _ => false)
          ++ [0, 1, 2, 3, 4, 5, 6].map (fun i : Fin 7 => .write (.out i) t.pins.outPin[i])
      ∧ t.gpio.filter (fun op => match op with | .write .wd _ => true | _ => false) =
        s.gpio.filter (fun op => match op with | .write .wd _ => true | _ => false) ++ [.write .wd t.pins.wdPin]

/-- 44_cyclic_task.md R197: step 6 stores the pin levels as they are, in every state in which a tick runs. -/
def Obligations.TickSamplesEveryInput : Prop :=
  ∀ (rb : Bool) (levels : Vector Bool 4) (s : State), s.burst.phase = .idle →
    ∃ t : State, exec (.tick rb levels) s = .next t
      ∧ (∀ i : Fin 4, t.inputs[i] = levels[i])
      ∧ [GpioOp.read (.inp 0), .read (.inp 1), .read (.inp 2), .read (.inp 3)] <:+:  t.gpio.drop s.gpio.length

/-- 44_cyclic_task.md, step 4 (order of its operations: D26): the locking edge, the unlocking edge with the pull-up switched off
first, and no operation on `LOCK` where neither edge applies. `lockPullUp` is the
model's register (log 9), and what is said of it rests on that entry. -/
def Obligations.TickSequencesTheLockPin : Prop :=
  ∀ (rb : Bool) (levels : Vector Bool 4) (s : State), s.burst.phase = .idle →
    ∃ t : State, exec (.tick rb levels) s = .next t
      ∧ (t.watchdog.resetLockCounter ≠ 0 → s.cyclic.lockPinLocked = false →
        t.pins.lockPin = .drivenHigh ∧ t.cyclic.lockPinLocked = true
          ∧ [GpioOp.mode .lock .output, .write .lock true] <:+: t.gpio.drop s.gpio.length)
      ∧ (t.watchdog.resetLockCounter = 0 → s.cyclic.lockPinLocked = true → s.pins.lockPin = .drivenHigh →
        t.pins.lockPin = .hiZ ∧ t.pins.lockPullUp = false ∧ t.cyclic.lockPinLocked = false
          ∧ [GpioOp.write .lock false, .mode .lock .inputTriState] <:+: t.gpio.drop s.gpio.length)
      ∧ ((t.watchdog.resetLockCounter ≠ 0 ↔ s.cyclic.lockPinLocked = true) →
        t.pins.lockPin = s.pins.lockPin ∧ t.pins.lockPullUp = s.pins.lockPullUp
          ∧ t.cyclic.lockPinLocked = s.cyclic.lockPinLocked
          ∧ (∀ l, GpioOp.write .lock l ∉ t.gpio.drop s.gpio.length)
          ∧ ∀ m, GpioOp.mode .lock m ∉ t.gpio.drop s.gpio.length)

/-- 44_cyclic_task.md, step 7 (the counter is D25's choice): HIGH and counter 0 in `Init`; else the counter moves and the LED
toggles when it reaches the half-period of the state the tick is in. And the GPIO operations of the whole tick, in the order of
its steps (inside a step, D26's): the readback, `WD`, the edge of `LOCK` if there is one, the seven outputs, the four inputs, and
`LED` exactly where it is re-asserted or toggles. -/
def Obligations.TickBlinksTheLed : Prop :=
  ∀ (rb : Bool) (levels : Vector Bool 4) (s : State), s.burst.phase = .idle →
    ∃ t : State, exec (.tick rb levels) s = .next t
      ∧ (t.watchdog.state = .init → t.pins.ledLevel = true ∧ t.cyclic.ledTicks = 0)
      ∧ (∀ period : Nat,
        (t.watchdog.state = .ok ∧ period = 2000 ∨ t.watchdog.state = .error ∧ period = 100) →
          (period ≤ s.cyclic.ledTicks + 1 →
              t.pins.ledLevel = !s.pins.ledLevel ∧ t.cyclic.ledTicks = 0)
            ∧ (s.cyclic.ledTicks + 1 < period →
              t.pins.ledLevel = s.pins.ledLevel ∧ t.cyclic.ledTicks = s.cyclic.ledTicks + 1))
      ∧ t.gpio =
        s.gpio ++ [.read (.inp 0), .write .wd t.pins.wdPin]
          ++ (if t.watchdog.resetLockCounter ≠ 0 ∧ s.cyclic.lockPinLocked = false then
                [.mode .lock .output, .write .lock true]
              else if t.watchdog.resetLockCounter = 0 ∧ s.cyclic.lockPinLocked = true then
                [.write .lock false, .mode .lock .inputTriState]
              else [])
          ++ [0, 1, 2, 3, 4, 5, 6].map (fun i : Fin 7 => .write (.out i) t.pins.outPin[i])
          ++ [.read (.inp 0), .read (.inp 1), .read (.inp 2), .read (.inp 3)]
          ++ (if t.watchdog.state = .init
                  ∨ (if t.watchdog.state = .ok then 2000 else 100) ≤ s.cyclic.ledTicks + 1 then
                [.write .led t.pins.ledLevel]
              else [])

/-- The source's I2 as 42_watchdog.md section 4 reads it (C5): a tick that leaves the relay pin HIGH is one whose own `trigger`
approved, so that the self-test handler set the confirmation flag in this very tick and the counter it left is above 0; the
watchdog is `Ok` before and after, the cycle is at its HIGH half, the self-test is neither `Initial` nor `Failed`, and it is not
a tick that began and ended in `RepeatedExpectOff`. -/
def Obligations.RelayPinHighOnlyAfterApproval : Prop :=
  ∀ (rb : Bool) (levels : Vector Bool 4) (s t : State), StateInvariant s →
    exec (.tick rb levels) s = .next t → t.pins.wdPin = true →
      (∃ u v : State,
          exec (.trigger rb) s = .next u ∧ u.ret = .bool true
            ∧ exec (.selftestHandler rb) s = .next v ∧ v.selfTest.confirmationFlag = true)
        ∧ s.watchdog.state = .ok ∧ t.watchdog.state = .ok ∧ 0 < t.watchdog.counter ∧ t.cyclic.highCycle = true
        ∧ t.selfTest.testState ≠ .initial ∧ t.selfTest.testState ≠ .failed
        ∧ ¬ (s.selfTest.testState = .repeatedExpectOff ∧ t.selfTest.testState = .repeatedExpectOff)

/-- 44_cyclic_task.md, effect latency, and 47_commands.md, summary (both marked derived by the spec): a received byte moves no
pin, issues no GPIO operation, and touches neither the inputs, the cyclic task's registers, the burst, nor the self-test but
for `request_flag`. -/
def Obligations.ReceivedBytesMoveNoPin : Prop :=
  ∀ (b : Byte) (s t : State), exec (.rx b) s = .next t →
    t.pins = s.pins ∧ t.gpio = s.gpio ∧ t.inputs = s.inputs ∧ t.cyclic = s.cyclic ∧ t.burst = s.burst
      ∧ t.params = s.params ∧ t.pending = s.pending
      ∧ t.selfTest = { s.selfTest with requestFlag := t.selfTest.requestFlag }
      ∧ (s.selfTest.testState ≠ .passed → t.selfTest = s.selfTest)

/-- 45_retrigger_burst.md, `BURST_START` (D27): enabled when no burst runs; it loads the burst registers and drives `WD`
LOW, and nothing else changes. -/
def Obligations.BurstStartLoadsRegisters : Prop :=
  ∀ s : State, s.burst.phase = .idle →
    exec .burstStart s =
      .next { s with
        burst :=
          { phase := .phaseA, timeout := 10000, low := 0, high := 0, result := .none,
            timerFlag := s.burst.timerFlag }
        pins := { s.pins with wdPin := false }
        gpio := s.gpio ++ [.write .wd false] }

/-- `BURST_ITER` in both phases (45_retrigger_burst.md, D27): what it counts, when the phase ends, with which result, success
before timeout; `WD` is LOW afterwards; nothing outside the burst registers, `WD` and the GPIO record changes. The operations
issued: in phase A `WD` LOW and one readback (their order is log 13's), in phase B the edge pairs and then one readback, and one
more `WD` LOW where the burst finishes. -/
def Obligations.BurstIterCountsAndFinishes : Prop :=
  ∀ (rb tflag : Bool) (s : State) (timeout low high : Nat),
    timeout = (if tflag then s.burst.timeout - 1 else s.burst.timeout) →
    low = (if rb then s.burst.low else s.burst.low + 1) →
    high = (if rb then s.burst.high + 1 else s.burst.high) →
      (s.burst.phase = .phaseA →
          exec (.burstIter rb tflag) s =
            .next { s with
              burst :=
                { s.burst with
                  timeout := timeout, low := low, timerFlag := false
                  phase := if low = 5 then .phaseB else if timeout = 0 then .idle else .phaseA
                  result := if low ≠ 5 ∧ timeout = 0 then .stopFailed else s.burst.result }
              pins := { s.pins with wdPin := false }
              gpio :=
                s.gpio ++ [.write .wd false, .read (.inp 0)]
                  ++ (if low ≠ 5 ∧ timeout = 0 then [.write .wd false] else []) })
        ∧ (s.burst.phase = .phaseB → 1 ≤ s.params.edgePairs →
          exec (.burstIter rb tflag) s =
            .next { s with
              burst :=
                { s.burst with
                  timeout := timeout, high := high, timerFlag := false
                  phase := if high = 500 ∨ timeout = 0 then .idle else .phaseB
                  result :=
                    if high = 500 then .passed else if timeout = 0 then .retriggerFailed else s.burst.result }
              pins := { s.pins with wdPin := false }
              gpio :=
                s.gpio ++ (List.replicate s.params.edgePairs [.write .wd true, .write .wd false]).flatten
                  ++ [.read (.inp 0)] ++ (if high = 500 ∨ timeout = 0 then [.write .wd false] else []) })

/-- 70_reset_and_hazards.md section 1: `RESET` from any state, a running burst and a half received frame included, gives every
item the value of 10_state.md's table (many of them D28's), keeps the parameters, and sends no line. -/
def Obligations.ResetGivesEveryItemItsResetValue : Prop :=
  ∀ s : State, ∃ t : State, exec .reset s = .next t
    ∧ t.outputs = Vector.replicate 7 false ∧ t.inputs = Vector.replicate 4 false
    ∧ t.watchdog = { state := .init, counter := 0, resetLockCounter := 0 }
    ∧ t.selfTest =
      { testState := .initial, stateTicks := 5, pollingTimeout := 10000, remainingUntilNextTest := 0,
        requestFlag := false, confirmationFlag := false }
    ∧ t.errors = { errorNumber := 0, diagnoses := s.params.diagStartup, executedTests := 0 }
    ∧ t.receiver.requestIndex = 0 ∧ t.receiver.overflow = false ∧ t.receiver.nextExpectedFrameNumber = 0
    ∧ t.receiver.versionGate = false
    ∧ t.cyclic = { highCycle := false, lockPinLocked := false, ledTicks := 0 }
    ∧ t.pins =
      { wdPin := false, outPin := Vector.replicate 7 false, lockPin := .hiZ, lockPullUp := false,
        ledLevel := true }
    ∧ t.burst.phase = .idle ∧ t.burst.timeout = 0 ∧ t.burst.low = 0 ∧ t.burst.high = 0 ∧ t.burst.result = .none
    ∧ t.params = s.params ∧ t.pending = s.pending ∧ t.sent = s.sent ∧ t.gpio = s.gpio

/-! ### The whole machine -/

/-- The invariants of 10_state.md section 11 (marked derived by the spec) are kept by every step from every state that has
them. -/
def Obligations.EveryStepKeepsStateInvariant : Prop :=
  ∀ s t : State, StateInvariant s → step s = .next t → StateInvariant t

/-- The counters' ranges and the lock pin's pull-up are kept by every step (10_state.md; log 9, log 11), and so is that the timer
flag is clear between events (log 8's choice). -/
def Obligations.EveryStepKeepsRangeInvariant : Prop :=
  ∀ s t : State, RangeInvariant s → step s = .next t → RangeInvariant t

/-- Both invariants hold right after reset. Many of the reset values are D28's; the timer flag's is log 8's choice and the
pull-up's reading is log 9's. -/
def Obligations.ResetStateMeetsBothInvariants : Prop :=
  StateInvariant State.reset ∧ RangeInvariant State.reset

/-- 42_watchdog.md R155: no step but a `RESET` takes the watchdog out of `Error`. -/
def Obligations.ErrorIsLeftOnlyByReset : Prop :=
  ∀ s t : State, s.watchdog.state = .error → (∀ rest, s.pending ≠ .reset :: rest) →
    step s = .next t → t.watchdog.state = .error

/-- 46_receiver.md, one line per terminator (marked derived by the spec), over runs of any length from any state: the lines
sent are as many as the terminator bytes received. -/
def Obligations.OneLineForEachTerminator : Prop :=
  ∀ (k : Nat) (s t : State), run k s = .next t →
    t.sent.length = s.sent.length + ((s.pending.take k).filter isTerminatorEvent).length

/-- 70_reset_and_hazards.md, retrigger deadline (a consequence of `watchdog.tick`): a watchdog in `Ok` whose counter is `n` is in
`Error`, with the relay and every output pin LOW, after `n` ticks with no command in between. -/
def Obligations.UntriggeredWatchdogStopsInTime : Prop :=
  ∀ (samples : List (Bool × Vector Bool 4)) (rest : List Event) (s : State),
    s.watchdog.state = .ok → s.watchdog.counter = samples.length → 0 < samples.length → s.burst.phase = .idle →
    s.pending = tickEvents samples ++ rest →
      ∃ t : State, run samples.length s = .next t
        ∧ t.watchdog.state = .error ∧ t.watchdog.counter = 0
        ∧ t.pins.wdPin = false ∧ t.pins.outPin = Vector.replicate 7 false

/-- 42_watchdog.md, the grace period (D19): in `Error` with a reset-lock counter of `n`, `n` ticks release the reset-lock pin,
with its pull-up off. The two invariants rule out pin registers no run reaches. -/
def Obligations.GracePeriodEndsWithLockReleased : Prop :=
  ∀ (samples : List (Bool × Vector Bool 4)) (rest : List Event) (s : State),
    StateInvariant s → RangeInvariant s →
    s.watchdog.state = .error → s.watchdog.resetLockCounter = samples.length → 0 < samples.length →
    s.burst.phase = .idle → s.pending = tickEvents samples ++ rest →
      ∃ t : State, run samples.length s = .next t
        ∧ t.watchdog.state = .error ∧ t.watchdog.resetLockCounter = 0
        ∧ t.pins.lockPin = .hiZ ∧ t.pins.lockPullUp = false

/-- 43_selftest.md, the window of the initial test (D21): from `Initial` with `n` ticks of its window left, `n` ticks have
ended it, by success or by failure. -/
def Obligations.InitialSelfTestEndsWithinItsWindow : Prop :=
  ∀ (samples : List (Bool × Vector Bool 4)) (rest : List Event) (s : State),
    s.selfTest.testState = .initial → s.selfTest.pollingTimeout = samples.length → 0 < samples.length →
    s.burst.phase = .idle → s.pending = tickEvents samples ++ rest →
      ∃ t : State, run samples.length s = .next t ∧ t.selfTest.testState ≠ .initial
end

