-- ==== Sys2Proof/Laws/Frames.lean ====
section
/-! SUPPORT. Tokens and frames (30_encoding.md R92 to R96): splitting undoes joining and joining undoes splitting, a number
holds no `;`, and the covered range of a joined frame is the frame without its CRC token. -/

namespace Sys2Proof.Machine

theorem splitTokens_append_semi (t rest : Bytes) (h : semi ∉ t) :
    splitTokens (t ++ semi :: rest) = (t :: (splitTokens rest).1, (splitTokens rest).2) := by
  induction t with
  | nil => simp [splitTokens]
  | cons b t ih =>
    simp only [List.mem_cons, not_or] at h
    simp [splitTokens, ih h.2, Ne.symm h.1]

/-- Splitting undoes joining, for tokens without `;`. -/
theorem splitTokens_joinTokens (ts : List Bytes) (h : ∀ t ∈ ts, semi ∉ t) :
    splitTokens (joinTokens ts) = (ts, []) := by
  induction ts with
  | nil => rfl
  | cons t ts ih =>
    simp only [List.mem_cons, forall_eq_or_imp] at h
    rw [joinTokens, splitTokens_append_semi _ _ h.1, ih h.2]

theorem splitTokens_token_semi (f : Bytes) : ∀ t ∈ (splitTokens f).1, semi ∉ t := by
  induction f with
  | nil => simp [splitTokens]
  | cons b f ih =>
    by_cases hb : b = semi
    · simp [splitTokens, hb]; exact ih
    · simp only [splitTokens, hb, if_false]
      rcases hs : splitTokens f with ⟨_ | ⟨t, ts⟩, tail⟩
      · simp
      · simp only [hs, List.mem_cons, forall_eq_or_imp] at ih ⊢
        exact ⟨by simp [Ne.symm hb, ih.1], ih.2⟩

theorem joinTokens_append_tail (f : Bytes) : joinTokens (splitTokens f).1 ++ (splitTokens f).2 = f := by
  induction f with
  | nil => rfl
  | cons b f ih =>
    by_cases hb : b = semi
    · simp [splitTokens, hb, joinTokens, ih]
    · simp only [splitTokens, hb, if_false]
      rcases hs : splitTokens f with ⟨_ | ⟨t, ts⟩, tail⟩
      · simpa [hs, joinTokens] using ih
      · simpa [hs, joinTokens] using ih

/-- Joining undoes splitting, where nothing follows the last `;`. -/
theorem joinTokens_splitTokens (f : Bytes) (ts : List Bytes) (h : splitTokens f = (ts, [])) : joinTokens ts = f := by
  have := joinTokens_append_tail f
  simpa [h] using this

theorem joinTokens_append (ts us : List Bytes) : joinTokens (ts ++ us) = joinTokens ts ++ joinTokens us := by
  induction ts with
  | nil => rfl
  | cons t ts ih => simp [joinTokens, ih]

/-- The tokens of a raw frame, in order. -/
def RawFrame.tokens (r : RawFrame) : List Bytes := r.fno :: r.cmd :: (r.payload ++ [r.crc])

/-- `tokenise` says once what a well-formed frame is: the join of its tokens, none of which holds `;`. -/
theorem tokenise_eq_some (f : Bytes) (r : RawFrame) :
    tokenise f = some r ↔ f = joinTokens r.tokens ∧ ∀ t ∈ r.tokens, semi ∉ t := by
  constructor
  · intro h
    unfold tokenise at h
    split at h
    · rename_i fno cmd c cs hs
      obtain rfl : _ = r := by simpa using h
      have hl : (c :: cs).dropLast ++ [(c :: cs).getLast (List.cons_ne_nil c cs)] = c :: cs :=
        List.dropLast_append_getLast _
      refine ⟨?_, ?_⟩
      · simp only [RawFrame.tokens, hl]
        exact (joinTokens_splitTokens f _ hs).symm
      · simp only [RawFrame.tokens, hl]
        have := splitTokens_token_semi f
        rwa [hs] at this
    · cases h
  · rintro ⟨rfl, h⟩
    unfold tokenise
    rw [splitTokens_joinTokens _ h]
    obtain ⟨fno, cmd, payload, crc⟩ := r
    cases payload with
    | nil => simp [RawFrame.tokens]
    | cons p ps =>
      have hd : (p :: (ps ++ [crc])).dropLast = p :: ps := List.dropLast_concat (l₁ := p :: ps)
      simp [RawFrame.tokens, hd]

/-- The covered range of a joined frame is the frame without its CRC token (30_encoding.md R95). -/
theorem crcCover_joinTokens (ts : List Bytes) (c : Bytes) :
    crcCover (joinTokens (ts ++ [c])) c = joinTokens ts := by
  have hl : (joinTokens ts).length + (c.length + 1) - c.length - 1 = (joinTokens ts).length := by omega
  simp [crcCover, joinTokens_append, joinTokens, hl]

theorem parseDigits_isDigit (t : Bytes) (v : Nat) (w : Word) (h : parseDigits t v = some w) :
    ∀ d ∈ t, isDigit d = true := by
  induction t generalizing v with
  | nil => simp
  | cons d t ih =>
    rw [parseDigits] at h
    split at h
    · split at h
      · cases h
      · simpa using ⟨‹_›, ih _ h⟩
    · cases h

/-- A number is made of digits. -/
theorem parseU16_isDigit (t : Bytes) (w : Word) (h : parseU16 t = some w) : ∀ d ∈ t, isDigit d = true := by
  rw [parseU16] at h
  split at h
  · cases h
  · exact parseDigits_isDigit t 0 w h

/-- A number holds no `;`. -/
theorem parseU16_no_semi (t : Bytes) (w : Word) (h : parseU16 t = some w) : semi ∉ t := fun hm =>
  absurd (parseU16_isDigit t w h semi hm) (by decide)

/-- A command token holds no `;`. -/
theorem commandLetter_no_semi (c : Command) : semi ∉ [commandLetter c] := by cases c <;> decide

/-- `commandOf` reads each command's own letter and no other token. -/
theorem commandOf_eq_some (token : Bytes) (c : Command) :
    commandOf token = some c ↔ token = [commandLetter c] := by
  constructor
  · intro h
    simp only [commandOf] at h
    repeat' split at h
    all_goals first
      | (simp only [Option.some.injEq] at h; subst h; assumption)
      | cases h
  · rintro rfl
    cases c <;> rfl

@[simp] theorem commandOf_commandLetter (c : Command) : commandOf [commandLetter c] = some c :=
  (commandOf_eq_some _ c).2 rfl

/-- `parse_u16` of every token, once: a list of the same values. -/
theorem parseAll_eq_some (ts : List Bytes) (vs : List Word) :
    parseAll ts = some vs ↔ List.Forall₂ (fun t v => parseU16 t = some v) ts vs := by
  induction ts generalizing vs with
  | nil => cases vs <;> simp [parseAll]
  | cons t ts ih =>
    rw [parseAll]
    cases vs with
    | nil =>
      split
      · simp
      · simp
    | cons v vs =>
      split
      · rename_i v' vs' h1 h2
        simp [h1, ← ih, h2]
      · rename_i h
        simp only [List.forall₂_cons, ← ih, reduceCtorEq, false_iff, not_and]
        intro h1 h2
        exact h _ _ h1 h2

end Sys2Proof.Machine
end

