-- ==== Sys2Proof/Laws/State.lean ====
section
/-! SUPPORT. What each update of the state does to each field: one lemma per field per update, all by `rfl`. -/

namespace Sys2Proof.Machine

variable (s : State)

section
variable (x : Vector Bool 7)
@[simp] theorem State.withOutputs_outputs : (s.withOutputs x).outputs = x := rfl
@[simp] theorem State.withOutputs_inputs : (s.withOutputs x).inputs = s.inputs := rfl
@[simp] theorem State.withOutputs_watchdog : (s.withOutputs x).watchdog = s.watchdog := rfl
@[simp] theorem State.withOutputs_selfTest : (s.withOutputs x).selfTest = s.selfTest := rfl
@[simp] theorem State.withOutputs_errors : (s.withOutputs x).errors = s.errors := rfl
@[simp] theorem State.withOutputs_receiver : (s.withOutputs x).receiver = s.receiver := rfl
@[simp] theorem State.withOutputs_cyclic : (s.withOutputs x).cyclic = s.cyclic := rfl
@[simp] theorem State.withOutputs_pins : (s.withOutputs x).pins = s.pins := rfl
@[simp] theorem State.withOutputs_burst : (s.withOutputs x).burst = s.burst := rfl
@[simp] theorem State.withOutputs_params : (s.withOutputs x).params = s.params := rfl
@[simp] theorem State.withOutputs_ret : (s.withOutputs x).ret = s.ret := rfl
@[simp] theorem State.withOutputs_pending : (s.withOutputs x).pending = s.pending := rfl
@[simp] theorem State.withOutputs_sent : (s.withOutputs x).sent = s.sent := rfl
@[simp] theorem State.withOutputs_gpio : (s.withOutputs x).gpio = s.gpio := rfl
end

section
variable (x : Vector Bool 4)
@[simp] theorem State.withInputs_outputs : (s.withInputs x).outputs = s.outputs := rfl
@[simp] theorem State.withInputs_inputs : (s.withInputs x).inputs = x := rfl
@[simp] theorem State.withInputs_watchdog : (s.withInputs x).watchdog = s.watchdog := rfl
@[simp] theorem State.withInputs_selfTest : (s.withInputs x).selfTest = s.selfTest := rfl
@[simp] theorem State.withInputs_errors : (s.withInputs x).errors = s.errors := rfl
@[simp] theorem State.withInputs_receiver : (s.withInputs x).receiver = s.receiver := rfl
@[simp] theorem State.withInputs_cyclic : (s.withInputs x).cyclic = s.cyclic := rfl
@[simp] theorem State.withInputs_pins : (s.withInputs x).pins = s.pins := rfl
@[simp] theorem State.withInputs_burst : (s.withInputs x).burst = s.burst := rfl
@[simp] theorem State.withInputs_params : (s.withInputs x).params = s.params := rfl
@[simp] theorem State.withInputs_ret : (s.withInputs x).ret = s.ret := rfl
@[simp] theorem State.withInputs_pending : (s.withInputs x).pending = s.pending := rfl
@[simp] theorem State.withInputs_sent : (s.withInputs x).sent = s.sent := rfl
@[simp] theorem State.withInputs_gpio : (s.withInputs x).gpio = s.gpio := rfl
end

section
variable (x : Watchdog)
@[simp] theorem State.withWatchdog_outputs : (s.withWatchdog x).outputs = s.outputs := rfl
@[simp] theorem State.withWatchdog_inputs : (s.withWatchdog x).inputs = s.inputs := rfl
@[simp] theorem State.withWatchdog_watchdog : (s.withWatchdog x).watchdog = x := rfl
@[simp] theorem State.withWatchdog_selfTest : (s.withWatchdog x).selfTest = s.selfTest := rfl
@[simp] theorem State.withWatchdog_errors : (s.withWatchdog x).errors = s.errors := rfl
@[simp] theorem State.withWatchdog_receiver : (s.withWatchdog x).receiver = s.receiver := rfl
@[simp] theorem State.withWatchdog_cyclic : (s.withWatchdog x).cyclic = s.cyclic := rfl
@[simp] theorem State.withWatchdog_pins : (s.withWatchdog x).pins = s.pins := rfl
@[simp] theorem State.withWatchdog_burst : (s.withWatchdog x).burst = s.burst := rfl
@[simp] theorem State.withWatchdog_params : (s.withWatchdog x).params = s.params := rfl
@[simp] theorem State.withWatchdog_ret : (s.withWatchdog x).ret = s.ret := rfl
@[simp] theorem State.withWatchdog_pending : (s.withWatchdog x).pending = s.pending := rfl
@[simp] theorem State.withWatchdog_sent : (s.withWatchdog x).sent = s.sent := rfl
@[simp] theorem State.withWatchdog_gpio : (s.withWatchdog x).gpio = s.gpio := rfl
end

section
variable (x : SelfTest)
@[simp] theorem State.withSelfTest_outputs : (s.withSelfTest x).outputs = s.outputs := rfl
@[simp] theorem State.withSelfTest_inputs : (s.withSelfTest x).inputs = s.inputs := rfl
@[simp] theorem State.withSelfTest_watchdog : (s.withSelfTest x).watchdog = s.watchdog := rfl
@[simp] theorem State.withSelfTest_selfTest : (s.withSelfTest x).selfTest = x := rfl
@[simp] theorem State.withSelfTest_errors : (s.withSelfTest x).errors = s.errors := rfl
@[simp] theorem State.withSelfTest_receiver : (s.withSelfTest x).receiver = s.receiver := rfl
@[simp] theorem State.withSelfTest_cyclic : (s.withSelfTest x).cyclic = s.cyclic := rfl
@[simp] theorem State.withSelfTest_pins : (s.withSelfTest x).pins = s.pins := rfl
@[simp] theorem State.withSelfTest_burst : (s.withSelfTest x).burst = s.burst := rfl
@[simp] theorem State.withSelfTest_params : (s.withSelfTest x).params = s.params := rfl
@[simp] theorem State.withSelfTest_ret : (s.withSelfTest x).ret = s.ret := rfl
@[simp] theorem State.withSelfTest_pending : (s.withSelfTest x).pending = s.pending := rfl
@[simp] theorem State.withSelfTest_sent : (s.withSelfTest x).sent = s.sent := rfl
@[simp] theorem State.withSelfTest_gpio : (s.withSelfTest x).gpio = s.gpio := rfl
end

section
variable (x : ErrorStore)
@[simp] theorem State.withErrors_outputs : (s.withErrors x).outputs = s.outputs := rfl
@[simp] theorem State.withErrors_inputs : (s.withErrors x).inputs = s.inputs := rfl
@[simp] theorem State.withErrors_watchdog : (s.withErrors x).watchdog = s.watchdog := rfl
@[simp] theorem State.withErrors_selfTest : (s.withErrors x).selfTest = s.selfTest := rfl
@[simp] theorem State.withErrors_errors : (s.withErrors x).errors = x := rfl
@[simp] theorem State.withErrors_receiver : (s.withErrors x).receiver = s.receiver := rfl
@[simp] theorem State.withErrors_cyclic : (s.withErrors x).cyclic = s.cyclic := rfl
@[simp] theorem State.withErrors_pins : (s.withErrors x).pins = s.pins := rfl
@[simp] theorem State.withErrors_burst : (s.withErrors x).burst = s.burst := rfl
@[simp] theorem State.withErrors_params : (s.withErrors x).params = s.params := rfl
@[simp] theorem State.withErrors_ret : (s.withErrors x).ret = s.ret := rfl
@[simp] theorem State.withErrors_pending : (s.withErrors x).pending = s.pending := rfl
@[simp] theorem State.withErrors_sent : (s.withErrors x).sent = s.sent := rfl
@[simp] theorem State.withErrors_gpio : (s.withErrors x).gpio = s.gpio := rfl
end

section
variable (x : Receiver)
@[simp] theorem State.withReceiver_outputs : (s.withReceiver x).outputs = s.outputs := rfl
@[simp] theorem State.withReceiver_inputs : (s.withReceiver x).inputs = s.inputs := rfl
@[simp] theorem State.withReceiver_watchdog : (s.withReceiver x).watchdog = s.watchdog := rfl
@[simp] theorem State.withReceiver_selfTest : (s.withReceiver x).selfTest = s.selfTest := rfl
@[simp] theorem State.withReceiver_errors : (s.withReceiver x).errors = s.errors := rfl
@[simp] theorem State.withReceiver_receiver : (s.withReceiver x).receiver = x := rfl
@[simp] theorem State.withReceiver_cyclic : (s.withReceiver x).cyclic = s.cyclic := rfl
@[simp] theorem State.withReceiver_pins : (s.withReceiver x).pins = s.pins := rfl
@[simp] theorem State.withReceiver_burst : (s.withReceiver x).burst = s.burst := rfl
@[simp] theorem State.withReceiver_params : (s.withReceiver x).params = s.params := rfl
@[simp] theorem State.withReceiver_ret : (s.withReceiver x).ret = s.ret := rfl
@[simp] theorem State.withReceiver_pending : (s.withReceiver x).pending = s.pending := rfl
@[simp] theorem State.withReceiver_sent : (s.withReceiver x).sent = s.sent := rfl
@[simp] theorem State.withReceiver_gpio : (s.withReceiver x).gpio = s.gpio := rfl
end

section
variable (x : Cyclic)
@[simp] theorem State.withCyclic_outputs : (s.withCyclic x).outputs = s.outputs := rfl
@[simp] theorem State.withCyclic_inputs : (s.withCyclic x).inputs = s.inputs := rfl
@[simp] theorem State.withCyclic_watchdog : (s.withCyclic x).watchdog = s.watchdog := rfl
@[simp] theorem State.withCyclic_selfTest : (s.withCyclic x).selfTest = s.selfTest := rfl
@[simp] theorem State.withCyclic_errors : (s.withCyclic x).errors = s.errors := rfl
@[simp] theorem State.withCyclic_receiver : (s.withCyclic x).receiver = s.receiver := rfl
@[simp] theorem State.withCyclic_cyclic : (s.withCyclic x).cyclic = x := rfl
@[simp] theorem State.withCyclic_pins : (s.withCyclic x).pins = s.pins := rfl
@[simp] theorem State.withCyclic_burst : (s.withCyclic x).burst = s.burst := rfl
@[simp] theorem State.withCyclic_params : (s.withCyclic x).params = s.params := rfl
@[simp] theorem State.withCyclic_ret : (s.withCyclic x).ret = s.ret := rfl
@[simp] theorem State.withCyclic_pending : (s.withCyclic x).pending = s.pending := rfl
@[simp] theorem State.withCyclic_sent : (s.withCyclic x).sent = s.sent := rfl
@[simp] theorem State.withCyclic_gpio : (s.withCyclic x).gpio = s.gpio := rfl
end

section
variable (x : Pins)
@[simp] theorem State.withPins_outputs : (s.withPins x).outputs = s.outputs := rfl
@[simp] theorem State.withPins_inputs : (s.withPins x).inputs = s.inputs := rfl
@[simp] theorem State.withPins_watchdog : (s.withPins x).watchdog = s.watchdog := rfl
@[simp] theorem State.withPins_selfTest : (s.withPins x).selfTest = s.selfTest := rfl
@[simp] theorem State.withPins_errors : (s.withPins x).errors = s.errors := rfl
@[simp] theorem State.withPins_receiver : (s.withPins x).receiver = s.receiver := rfl
@[simp] theorem State.withPins_cyclic : (s.withPins x).cyclic = s.cyclic := rfl
@[simp] theorem State.withPins_pins : (s.withPins x).pins = x := rfl
@[simp] theorem State.withPins_burst : (s.withPins x).burst = s.burst := rfl
@[simp] theorem State.withPins_params : (s.withPins x).params = s.params := rfl
@[simp] theorem State.withPins_ret : (s.withPins x).ret = s.ret := rfl
@[simp] theorem State.withPins_pending : (s.withPins x).pending = s.pending := rfl
@[simp] theorem State.withPins_sent : (s.withPins x).sent = s.sent := rfl
@[simp] theorem State.withPins_gpio : (s.withPins x).gpio = s.gpio := rfl
end

section
variable (x : Burst)
@[simp] theorem State.withBurst_outputs : (s.withBurst x).outputs = s.outputs := rfl
@[simp] theorem State.withBurst_inputs : (s.withBurst x).inputs = s.inputs := rfl
@[simp] theorem State.withBurst_watchdog : (s.withBurst x).watchdog = s.watchdog := rfl
@[simp] theorem State.withBurst_selfTest : (s.withBurst x).selfTest = s.selfTest := rfl
@[simp] theorem State.withBurst_errors : (s.withBurst x).errors = s.errors := rfl
@[simp] theorem State.withBurst_receiver : (s.withBurst x).receiver = s.receiver := rfl
@[simp] theorem State.withBurst_cyclic : (s.withBurst x).cyclic = s.cyclic := rfl
@[simp] theorem State.withBurst_pins : (s.withBurst x).pins = s.pins := rfl
@[simp] theorem State.withBurst_burst : (s.withBurst x).burst = x := rfl
@[simp] theorem State.withBurst_params : (s.withBurst x).params = s.params := rfl
@[simp] theorem State.withBurst_ret : (s.withBurst x).ret = s.ret := rfl
@[simp] theorem State.withBurst_pending : (s.withBurst x).pending = s.pending := rfl
@[simp] theorem State.withBurst_sent : (s.withBurst x).sent = s.sent := rfl
@[simp] theorem State.withBurst_gpio : (s.withBurst x).gpio = s.gpio := rfl
end

section
variable (x : OpResult)
@[simp] theorem State.withRet_outputs : (s.withRet x).outputs = s.outputs := rfl
@[simp] theorem State.withRet_inputs : (s.withRet x).inputs = s.inputs := rfl
@[simp] theorem State.withRet_watchdog : (s.withRet x).watchdog = s.watchdog := rfl
@[simp] theorem State.withRet_selfTest : (s.withRet x).selfTest = s.selfTest := rfl
@[simp] theorem State.withRet_errors : (s.withRet x).errors = s.errors := rfl
@[simp] theorem State.withRet_receiver : (s.withRet x).receiver = s.receiver := rfl
@[simp] theorem State.withRet_cyclic : (s.withRet x).cyclic = s.cyclic := rfl
@[simp] theorem State.withRet_pins : (s.withRet x).pins = s.pins := rfl
@[simp] theorem State.withRet_burst : (s.withRet x).burst = s.burst := rfl
@[simp] theorem State.withRet_params : (s.withRet x).params = s.params := rfl
@[simp] theorem State.withRet_ret : (s.withRet x).ret = x := rfl
@[simp] theorem State.withRet_pending : (s.withRet x).pending = s.pending := rfl
@[simp] theorem State.withRet_sent : (s.withRet x).sent = s.sent := rfl
@[simp] theorem State.withRet_gpio : (s.withRet x).gpio = s.gpio := rfl
end

section
variable (x : List Event)
@[simp] theorem State.withPending_outputs : (s.withPending x).outputs = s.outputs := rfl
@[simp] theorem State.withPending_inputs : (s.withPending x).inputs = s.inputs := rfl
@[simp] theorem State.withPending_watchdog : (s.withPending x).watchdog = s.watchdog := rfl
@[simp] theorem State.withPending_selfTest : (s.withPending x).selfTest = s.selfTest := rfl
@[simp] theorem State.withPending_errors : (s.withPending x).errors = s.errors := rfl
@[simp] theorem State.withPending_receiver : (s.withPending x).receiver = s.receiver := rfl
@[simp] theorem State.withPending_cyclic : (s.withPending x).cyclic = s.cyclic := rfl
@[simp] theorem State.withPending_pins : (s.withPending x).pins = s.pins := rfl
@[simp] theorem State.withPending_burst : (s.withPending x).burst = s.burst := rfl
@[simp] theorem State.withPending_params : (s.withPending x).params = s.params := rfl
@[simp] theorem State.withPending_ret : (s.withPending x).ret = s.ret := rfl
@[simp] theorem State.withPending_pending : (s.withPending x).pending = x := rfl
@[simp] theorem State.withPending_sent : (s.withPending x).sent = s.sent := rfl
@[simp] theorem State.withPending_gpio : (s.withPending x).gpio = s.gpio := rfl
end

section
variable (x : List Bytes)
@[simp] theorem State.withSent_outputs : (s.withSent x).outputs = s.outputs := rfl
@[simp] theorem State.withSent_inputs : (s.withSent x).inputs = s.inputs := rfl
@[simp] theorem State.withSent_watchdog : (s.withSent x).watchdog = s.watchdog := rfl
@[simp] theorem State.withSent_selfTest : (s.withSent x).selfTest = s.selfTest := rfl
@[simp] theorem State.withSent_errors : (s.withSent x).errors = s.errors := rfl
@[simp] theorem State.withSent_receiver : (s.withSent x).receiver = s.receiver := rfl
@[simp] theorem State.withSent_cyclic : (s.withSent x).cyclic = s.cyclic := rfl
@[simp] theorem State.withSent_pins : (s.withSent x).pins = s.pins := rfl
@[simp] theorem State.withSent_burst : (s.withSent x).burst = s.burst := rfl
@[simp] theorem State.withSent_params : (s.withSent x).params = s.params := rfl
@[simp] theorem State.withSent_ret : (s.withSent x).ret = s.ret := rfl
@[simp] theorem State.withSent_pending : (s.withSent x).pending = s.pending := rfl
@[simp] theorem State.withSent_sent : (s.withSent x).sent = x := rfl
@[simp] theorem State.withSent_gpio : (s.withSent x).gpio = s.gpio := rfl
end

section
variable (x : List GpioOp)
@[simp] theorem State.withGpio_outputs : (s.withGpio x).outputs = s.outputs := rfl
@[simp] theorem State.withGpio_inputs : (s.withGpio x).inputs = s.inputs := rfl
@[simp] theorem State.withGpio_watchdog : (s.withGpio x).watchdog = s.watchdog := rfl
@[simp] theorem State.withGpio_selfTest : (s.withGpio x).selfTest = s.selfTest := rfl
@[simp] theorem State.withGpio_errors : (s.withGpio x).errors = s.errors := rfl
@[simp] theorem State.withGpio_receiver : (s.withGpio x).receiver = s.receiver := rfl
@[simp] theorem State.withGpio_cyclic : (s.withGpio x).cyclic = s.cyclic := rfl
@[simp] theorem State.withGpio_pins : (s.withGpio x).pins = s.pins := rfl
@[simp] theorem State.withGpio_burst : (s.withGpio x).burst = s.burst := rfl
@[simp] theorem State.withGpio_params : (s.withGpio x).params = s.params := rfl
@[simp] theorem State.withGpio_ret : (s.withGpio x).ret = s.ret := rfl
@[simp] theorem State.withGpio_pending : (s.withGpio x).pending = s.pending := rfl
@[simp] theorem State.withGpio_sent : (s.withGpio x).sent = s.sent := rfl
@[simp] theorem State.withGpio_gpio : (s.withGpio x).gpio = x := rfl
end

end Sys2Proof.Machine
end

