-- ==== Sys2Proof/Laws/Ops.lean ====
section
/-! SUPPORT. The shared operations, once each: what they write (an equation) and what they leave (one simp lemma per field). -/

namespace Sys2Proof.Machine

variable (s : State)

section
variable (op : GpioOp)
theorem issue_eq : issue op s = { s with gpio := s.gpio ++ [op] } := rfl
@[simp] theorem issue_gpio : (issue op s).gpio = s.gpio ++ [op] := rfl
@[simp] theorem issue_outputs : (issue op s).outputs = s.outputs := rfl
@[simp] theorem issue_inputs : (issue op s).inputs = s.inputs := rfl
@[simp] theorem issue_watchdog : (issue op s).watchdog = s.watchdog := rfl
@[simp] theorem issue_selfTest : (issue op s).selfTest = s.selfTest := rfl
@[simp] theorem issue_errors : (issue op s).errors = s.errors := rfl
@[simp] theorem issue_receiver : (issue op s).receiver = s.receiver := rfl
@[simp] theorem issue_cyclic : (issue op s).cyclic = s.cyclic := rfl
@[simp] theorem issue_pins : (issue op s).pins = s.pins := rfl
@[simp] theorem issue_burst : (issue op s).burst = s.burst := rfl
@[simp] theorem issue_params : (issue op s).params = s.params := rfl
@[simp] theorem issue_ret : (issue op s).ret = s.ret := rfl
@[simp] theorem issue_pending : (issue op s).pending = s.pending := rfl
@[simp] theorem issue_sent : (issue op s).sent = s.sent := rfl
end

section
variable (p : Pin) (level : Bool)
theorem gpioWrite_eq :
    gpioWrite p level s = { s with pins := s.pins.write p level, gpio := s.gpio ++ [.write p level] } := rfl
@[simp] theorem gpioWrite_gpio : (gpioWrite p level s).gpio = s.gpio ++ [.write p level] := rfl
@[simp] theorem gpioWrite_pins : (gpioWrite p level s).pins = s.pins.write p level := rfl
@[simp] theorem gpioWrite_outputs : (gpioWrite p level s).outputs = s.outputs := rfl
@[simp] theorem gpioWrite_inputs : (gpioWrite p level s).inputs = s.inputs := rfl
@[simp] theorem gpioWrite_watchdog : (gpioWrite p level s).watchdog = s.watchdog := rfl
@[simp] theorem gpioWrite_selfTest : (gpioWrite p level s).selfTest = s.selfTest := rfl
@[simp] theorem gpioWrite_errors : (gpioWrite p level s).errors = s.errors := rfl
@[simp] theorem gpioWrite_receiver : (gpioWrite p level s).receiver = s.receiver := rfl
@[simp] theorem gpioWrite_cyclic : (gpioWrite p level s).cyclic = s.cyclic := rfl
@[simp] theorem gpioWrite_burst : (gpioWrite p level s).burst = s.burst := rfl
@[simp] theorem gpioWrite_params : (gpioWrite p level s).params = s.params := rfl
@[simp] theorem gpioWrite_ret : (gpioWrite p level s).ret = s.ret := rfl
@[simp] theorem gpioWrite_pending : (gpioWrite p level s).pending = s.pending := rfl
@[simp] theorem gpioWrite_sent : (gpioWrite p level s).sent = s.sent := rfl
end

section
variable (p : Pin) (m : PinMode)
theorem gpioMode_eq :
    gpioMode p m s = { s with pins := s.pins.setMode p m, gpio := s.gpio ++ [.mode p m] } := rfl
@[simp] theorem gpioMode_gpio : (gpioMode p m s).gpio = s.gpio ++ [.mode p m] := rfl
@[simp] theorem gpioMode_pins : (gpioMode p m s).pins = s.pins.setMode p m := rfl
@[simp] theorem gpioMode_outputs : (gpioMode p m s).outputs = s.outputs := rfl
@[simp] theorem gpioMode_inputs : (gpioMode p m s).inputs = s.inputs := rfl
@[simp] theorem gpioMode_watchdog : (gpioMode p m s).watchdog = s.watchdog := rfl
@[simp] theorem gpioMode_selfTest : (gpioMode p m s).selfTest = s.selfTest := rfl
@[simp] theorem gpioMode_errors : (gpioMode p m s).errors = s.errors := rfl
@[simp] theorem gpioMode_receiver : (gpioMode p m s).receiver = s.receiver := rfl
@[simp] theorem gpioMode_cyclic : (gpioMode p m s).cyclic = s.cyclic := rfl
@[simp] theorem gpioMode_burst : (gpioMode p m s).burst = s.burst := rfl
@[simp] theorem gpioMode_params : (gpioMode p m s).params = s.params := rfl
@[simp] theorem gpioMode_ret : (gpioMode p m s).ret = s.ret := rfl
@[simp] theorem gpioMode_pending : (gpioMode p m s).pending = s.pending := rfl
@[simp] theorem gpioMode_sent : (gpioMode p m s).sent = s.sent := rfl
end

section
variable (p : Pin)
theorem gpioRead_eq : gpioRead p s = { s with gpio := s.gpio ++ [.read p] } := rfl
@[simp] theorem gpioRead_gpio : (gpioRead p s).gpio = s.gpio ++ [.read p] := rfl
@[simp] theorem gpioRead_outputs : (gpioRead p s).outputs = s.outputs := rfl
@[simp] theorem gpioRead_inputs : (gpioRead p s).inputs = s.inputs := rfl
@[simp] theorem gpioRead_watchdog : (gpioRead p s).watchdog = s.watchdog := rfl
@[simp] theorem gpioRead_selfTest : (gpioRead p s).selfTest = s.selfTest := rfl
@[simp] theorem gpioRead_errors : (gpioRead p s).errors = s.errors := rfl
@[simp] theorem gpioRead_receiver : (gpioRead p s).receiver = s.receiver := rfl
@[simp] theorem gpioRead_cyclic : (gpioRead p s).cyclic = s.cyclic := rfl
@[simp] theorem gpioRead_pins : (gpioRead p s).pins = s.pins := rfl
@[simp] theorem gpioRead_burst : (gpioRead p s).burst = s.burst := rfl
@[simp] theorem gpioRead_params : (gpioRead p s).params = s.params := rfl
@[simp] theorem gpioRead_ret : (gpioRead p s).ret = s.ret := rfl
@[simp] theorem gpioRead_pending : (gpioRead p s).pending = s.pending := rfl
@[simp] theorem gpioRead_sent : (gpioRead p s).sent = s.sent := rfl
end

section
variable (line : Bytes)
theorem txLine_eq : txLine line s = { s with sent := s.sent ++ [line] } := rfl
@[simp] theorem txLine_sent : (txLine line s).sent = s.sent ++ [line] := rfl
@[simp] theorem txLine_outputs : (txLine line s).outputs = s.outputs := rfl
@[simp] theorem txLine_inputs : (txLine line s).inputs = s.inputs := rfl
@[simp] theorem txLine_watchdog : (txLine line s).watchdog = s.watchdog := rfl
@[simp] theorem txLine_selfTest : (txLine line s).selfTest = s.selfTest := rfl
@[simp] theorem txLine_errors : (txLine line s).errors = s.errors := rfl
@[simp] theorem txLine_receiver : (txLine line s).receiver = s.receiver := rfl
@[simp] theorem txLine_cyclic : (txLine line s).cyclic = s.cyclic := rfl
@[simp] theorem txLine_pins : (txLine line s).pins = s.pins := rfl
@[simp] theorem txLine_burst : (txLine line s).burst = s.burst := rfl
@[simp] theorem txLine_params : (txLine line s).params = s.params := rfl
@[simp] theorem txLine_ret : (txLine line s).ret = s.ret := rfl
@[simp] theorem txLine_pending : (txLine line s).pending = s.pending := rfl
@[simp] theorem txLine_gpio : (txLine line s).gpio = s.gpio := rfl
end

section
variable (body : Bytes)
theorem sendResponse_eq :
    sendResponse body s =
      { s with sent := s.sent ++ [responseLine s.receiver.nextExpectedFrameNumber body] } := rfl
@[simp] theorem sendResponse_sent :
    (sendResponse body s).sent = s.sent ++ [responseLine s.receiver.nextExpectedFrameNumber body] := rfl
@[simp] theorem sendResponse_outputs : (sendResponse body s).outputs = s.outputs := rfl
@[simp] theorem sendResponse_inputs : (sendResponse body s).inputs = s.inputs := rfl
@[simp] theorem sendResponse_watchdog : (sendResponse body s).watchdog = s.watchdog := rfl
@[simp] theorem sendResponse_selfTest : (sendResponse body s).selfTest = s.selfTest := rfl
@[simp] theorem sendResponse_errors : (sendResponse body s).errors = s.errors := rfl
@[simp] theorem sendResponse_receiver : (sendResponse body s).receiver = s.receiver := rfl
@[simp] theorem sendResponse_cyclic : (sendResponse body s).cyclic = s.cyclic := rfl
@[simp] theorem sendResponse_pins : (sendResponse body s).pins = s.pins := rfl
@[simp] theorem sendResponse_burst : (sendResponse body s).burst = s.burst := rfl
@[simp] theorem sendResponse_params : (sendResponse body s).params = s.params := rfl
@[simp] theorem sendResponse_ret : (sendResponse body s).ret = s.ret := rfl
@[simp] theorem sendResponse_pending : (sendResponse body s).pending = s.pending := rfl
@[simp] theorem sendResponse_gpio : (sendResponse body s).gpio = s.gpio := rfl
theorem ack_eq :
    ack body s =
      { s with
        receiver := { s.receiver with nextExpectedFrameNumber := s.receiver.nextExpectedFrameNumber + 1 }
        sent := s.sent ++ [responseLine s.receiver.nextExpectedFrameNumber body] } := rfl
@[simp] theorem ack_sent :
    (ack body s).sent = s.sent ++ [responseLine s.receiver.nextExpectedFrameNumber body] := rfl
@[simp] theorem ack_receiver :
    (ack body s).receiver =
      { s.receiver with nextExpectedFrameNumber := s.receiver.nextExpectedFrameNumber + 1 } := rfl
@[simp] theorem ack_outputs : (ack body s).outputs = s.outputs := rfl
@[simp] theorem ack_inputs : (ack body s).inputs = s.inputs := rfl
@[simp] theorem ack_watchdog : (ack body s).watchdog = s.watchdog := rfl
@[simp] theorem ack_selfTest : (ack body s).selfTest = s.selfTest := rfl
@[simp] theorem ack_errors : (ack body s).errors = s.errors := rfl
@[simp] theorem ack_cyclic : (ack body s).cyclic = s.cyclic := rfl
@[simp] theorem ack_pins : (ack body s).pins = s.pins := rfl
@[simp] theorem ack_burst : (ack body s).burst = s.burst := rfl
@[simp] theorem ack_params : (ack body s).params = s.params := rfl
@[simp] theorem ack_ret : (ack body s).ret = s.ret := rfl
@[simp] theorem ack_pending : (ack body s).pending = s.pending := rfl
@[simp] theorem ack_gpio : (ack body s).gpio = s.gpio := rfl
end

section
variable (n : Word)
theorem setError_eq :
    setError n s =
      { s with
        errors :=
          { s.errors with errorNumber := if s.errors.errorNumber = 0 then n else s.errors.errorNumber } } := by
  unfold setError; split <;> rfl
@[simp] theorem setError_errors :
    (setError n s).errors =
      { s.errors with errorNumber := if s.errors.errorNumber = 0 then n else s.errors.errorNumber } := by
  rw [setError_eq]
@[simp] theorem setError_outputs : (setError n s).outputs = s.outputs := by rw [setError_eq]
@[simp] theorem setError_inputs : (setError n s).inputs = s.inputs := by rw [setError_eq]
@[simp] theorem setError_watchdog : (setError n s).watchdog = s.watchdog := by rw [setError_eq]
@[simp] theorem setError_selfTest : (setError n s).selfTest = s.selfTest := by rw [setError_eq]
@[simp] theorem setError_receiver : (setError n s).receiver = s.receiver := by rw [setError_eq]
@[simp] theorem setError_cyclic : (setError n s).cyclic = s.cyclic := by rw [setError_eq]
@[simp] theorem setError_pins : (setError n s).pins = s.pins := by rw [setError_eq]
@[simp] theorem setError_burst : (setError n s).burst = s.burst := by rw [setError_eq]
@[simp] theorem setError_params : (setError n s).params = s.params := by rw [setError_eq]
@[simp] theorem setError_ret : (setError n s).ret = s.ret := by rw [setError_eq]
@[simp] theorem setError_pending : (setError n s).pending = s.pending := by rw [setError_eq]
@[simp] theorem setError_sent : (setError n s).sent = s.sent := by rw [setError_eq]
@[simp] theorem setError_gpio : (setError n s).gpio = s.gpio := by rw [setError_eq]
end

section
variable (mask : Word)
theorem setDiagnoses_eq :
    setDiagnoses mask s = { s with errors := { s.errors with diagnoses := s.errors.diagnoses ||| mask } } := rfl
@[simp] theorem setDiagnoses_errors :
    (setDiagnoses mask s).errors = { s.errors with diagnoses := s.errors.diagnoses ||| mask } := rfl
@[simp] theorem setDiagnoses_outputs : (setDiagnoses mask s).outputs = s.outputs := rfl
@[simp] theorem setDiagnoses_inputs : (setDiagnoses mask s).inputs = s.inputs := rfl
@[simp] theorem setDiagnoses_watchdog : (setDiagnoses mask s).watchdog = s.watchdog := rfl
@[simp] theorem setDiagnoses_selfTest : (setDiagnoses mask s).selfTest = s.selfTest := rfl
@[simp] theorem setDiagnoses_receiver : (setDiagnoses mask s).receiver = s.receiver := rfl
@[simp] theorem setDiagnoses_cyclic : (setDiagnoses mask s).cyclic = s.cyclic := rfl
@[simp] theorem setDiagnoses_pins : (setDiagnoses mask s).pins = s.pins := rfl
@[simp] theorem setDiagnoses_burst : (setDiagnoses mask s).burst = s.burst := rfl
@[simp] theorem setDiagnoses_params : (setDiagnoses mask s).params = s.params := rfl
@[simp] theorem setDiagnoses_ret : (setDiagnoses mask s).ret = s.ret := rfl
@[simp] theorem setDiagnoses_pending : (setDiagnoses mask s).pending = s.pending := rfl
@[simp] theorem setDiagnoses_sent : (setDiagnoses mask s).sent = s.sent := rfl
@[simp] theorem setDiagnoses_gpio : (setDiagnoses mask s).gpio = s.gpio := rfl
end

section
variable (mask : Word)
theorem setExecutedTest_eq :
    setExecutedTest mask s = { s with errors := { s.errors with executedTests := s.errors.executedTests ||| mask } } := rfl
@[simp] theorem setExecutedTest_errors :
    (setExecutedTest mask s).errors = { s.errors with executedTests := s.errors.executedTests ||| mask } := rfl
@[simp] theorem setExecutedTest_outputs : (setExecutedTest mask s).outputs = s.outputs := rfl
@[simp] theorem setExecutedTest_inputs : (setExecutedTest mask s).inputs = s.inputs := rfl
@[simp] theorem setExecutedTest_watchdog : (setExecutedTest mask s).watchdog = s.watchdog := rfl
@[simp] theorem setExecutedTest_selfTest : (setExecutedTest mask s).selfTest = s.selfTest := rfl
@[simp] theorem setExecutedTest_receiver : (setExecutedTest mask s).receiver = s.receiver := rfl
@[simp] theorem setExecutedTest_cyclic : (setExecutedTest mask s).cyclic = s.cyclic := rfl
@[simp] theorem setExecutedTest_pins : (setExecutedTest mask s).pins = s.pins := rfl
@[simp] theorem setExecutedTest_burst : (setExecutedTest mask s).burst = s.burst := rfl
@[simp] theorem setExecutedTest_params : (setExecutedTest mask s).params = s.params := rfl
@[simp] theorem setExecutedTest_ret : (setExecutedTest mask s).ret = s.ret := rfl
@[simp] theorem setExecutedTest_pending : (setExecutedTest mask s).pending = s.pending := rfl
@[simp] theorem setExecutedTest_sent : (setExecutedTest mask s).sent = s.sent := rfl
@[simp] theorem setExecutedTest_gpio : (setExecutedTest mask s).gpio = s.gpio := rfl
end

section
variable (code : Option Word)
theorem enterError_eq :
    enterError code s =
      { s with
        watchdog := s.watchdog.enterError
        errors :=
          { s.errors with
            errorNumber :=
              if s.errors.errorNumber = 0 then code.getD s.errors.errorNumber else s.errors.errorNumber } } := by
  cases code with
  | none => simp only [enterError, Option.getD_none, ite_self]; rfl
  | some c => simp only [enterError, setError_eq, Option.getD_some]; rfl
@[simp] theorem enterError_watchdog : (enterError code s).watchdog = s.watchdog.enterError := by
  rw [enterError_eq]
@[simp] theorem enterError_errors :
    (enterError code s).errors =
      { s.errors with
        errorNumber :=
          if s.errors.errorNumber = 0 then code.getD s.errors.errorNumber else s.errors.errorNumber } := by
  rw [enterError_eq]
@[simp] theorem enterError_outputs : (enterError code s).outputs = s.outputs := by rw [enterError_eq]
@[simp] theorem enterError_inputs : (enterError code s).inputs = s.inputs := by rw [enterError_eq]
@[simp] theorem enterError_selfTest : (enterError code s).selfTest = s.selfTest := by rw [enterError_eq]
@[simp] theorem enterError_receiver : (enterError code s).receiver = s.receiver := by rw [enterError_eq]
@[simp] theorem enterError_cyclic : (enterError code s).cyclic = s.cyclic := by rw [enterError_eq]
@[simp] theorem enterError_pins : (enterError code s).pins = s.pins := by rw [enterError_eq]
@[simp] theorem enterError_burst : (enterError code s).burst = s.burst := by rw [enterError_eq]
@[simp] theorem enterError_params : (enterError code s).params = s.params := by rw [enterError_eq]
@[simp] theorem enterError_ret : (enterError code s).ret = s.ret := by rw [enterError_eq]
@[simp] theorem enterError_pending : (enterError code s).pending = s.pending := by rw [enterError_eq]
@[simp] theorem enterError_sent : (enterError code s).sent = s.sent := by rw [enterError_eq]
@[simp] theorem enterError_gpio : (enterError code s).gpio = s.gpio := by rw [enterError_eq]
end

section
variable (code : Word) (f : Bytes)
theorem nack_eq :
    nack code f s =
      { s with
        errors := { s.errors with diagnoses := s.errors.diagnoses ||| s.params.nackMask code }
        sent := s.sent ++ [responseLine s.receiver.nextExpectedFrameNumber (bodyNack code f)] } := rfl
@[simp] theorem nack_sent :
    (nack code f s).sent = s.sent ++ [responseLine s.receiver.nextExpectedFrameNumber (bodyNack code f)] := rfl
@[simp] theorem nack_errors :
    (nack code f s).errors = { s.errors with diagnoses := s.errors.diagnoses ||| s.params.nackMask code } := rfl
@[simp] theorem nack_outputs : (nack code f s).outputs = s.outputs := rfl
@[simp] theorem nack_inputs : (nack code f s).inputs = s.inputs := rfl
@[simp] theorem nack_watchdog : (nack code f s).watchdog = s.watchdog := rfl
@[simp] theorem nack_selfTest : (nack code f s).selfTest = s.selfTest := rfl
@[simp] theorem nack_receiver : (nack code f s).receiver = s.receiver := rfl
@[simp] theorem nack_cyclic : (nack code f s).cyclic = s.cyclic := rfl
@[simp] theorem nack_pins : (nack code f s).pins = s.pins := rfl
@[simp] theorem nack_burst : (nack code f s).burst = s.burst := rfl
@[simp] theorem nack_params : (nack code f s).params = s.params := rfl
@[simp] theorem nack_ret : (nack code f s).ret = s.ret := rfl
@[simp] theorem nack_pending : (nack code f s).pending = s.pending := rfl
@[simp] theorem nack_gpio : (nack code f s).gpio = s.gpio := rfl
end

theorem resetBlock_eq :
    resetBlock s = { State.resetWith s.params with pending := s.pending, sent := s.sent, gpio := s.gpio } := rfl

theorem countDown_eq (n : Nat) : countDown n = n - 1 := by unfold countDown; split <;> omega

theorem Watchdog.enterError_eq (w : Watchdog) :
    w.enterError = { state := .error, counter := 0, resetLockCounter := w.resetLockCounter - 1 } := by
  rw [Watchdog.enterError, countDown_eq]

/-! The pin registers under one operation. -/

section
variable (x : Pins) (level : Bool)
@[simp] theorem Pins.write_wd : x.write .wd level = { x with wdPin := level } := rfl
@[simp] theorem Pins.write_led : x.write .led level = { x with ledLevel := level } := rfl
@[simp] theorem Pins.write_out (i : Fin 7) :
    x.write (.out i) level = { x with outPin := x.outPin.set i level } := rfl
@[simp] theorem Pins.write_inp (i : Fin 4) : x.write (.inp i) level = x := rfl
/-- Locking: whatever `LOCK` was, output mode and a HIGH write drive it HIGH. -/
theorem Pins.lock_high :
    (x.setMode .lock .output).write .lock true = { x with lockPin := .drivenHigh, lockPullUp := true } := by
  cases h : x.lockPullUp <;> simp [Pins.setMode, Pins.write, h]
/-- Releasing a driven `LOCK`: a LOW write switches the pull-up off, then the pin is an input. -/
theorem Pins.lock_release (h : x.lockPin ≠ .hiZ) :
    (x.write .lock false).setMode .lock .inputTriState = { x with lockPin := .hiZ, lockPullUp := false } := by
  simp [Pins.setMode, Pins.write, h]
end

end Sys2Proof.Machine
end

