-- ==== Sys2Proof/Laws/Watchdog.lean ====
section
/-! SUPPORT. The watchdog and the self-test (42_watchdog.md, 43_selftest.md): what each operation writes, once, and what it
leaves. -/

namespace Sys2Proof.Machine

variable (s : State)

/-- `force_error` (R156): nothing in `Error`, else the fault entry with no code. -/
theorem forceError_eq :
    forceError s =
      { s with
        watchdog :=
          if s.watchdog.state = .error then s.watchdog
          else { state := .error, counter := 0, resetLockCounter := s.watchdog.resetLockCounter - 1 } } := by
  unfold forceError
  by_cases h : s.watchdog.state = .error
  · simp [h]
  · simp [h, enterError_eq, Watchdog.enterError_eq]

/-- `fail` (R177): the latch, `Failed`, and the forced watchdog. -/
theorem fail_eq (code : Word) :
    fail code s =
      { s with
        errors :=
          { s.errors with errorNumber := if s.errors.errorNumber = 0 then code else s.errors.errorNumber }
        selfTest := { s.selfTest with testState := .failed }
        watchdog :=
          if s.watchdog.state = .error then s.watchdog
          else { state := .error, counter := 0, resetLockCounter := s.watchdog.resetLockCounter - 1 } } := by
  simp only [fail, forceError_eq, setError_eq, State.withSelfTest]

/-- `passTest` (R172, R175): the mask recorded, confirmation set, `Passed` entered with a new interval. -/
theorem passTest_eq (mask : Word) :
    passTest mask s =
      { s with
        errors := { s.errors with executedTests := s.errors.executedTests ||| mask }
        selfTest :=
          { s.selfTest with
            testState := .passed, stateTicks := Config.stateTicksInit, pollingTimeout := Config.pollTimeoutTicks
            remainingUntilNextTest := Config.nextTestTicks, confirmationFlag := true } } := rfl

/-- `sample` (R171) in one line: a matching last sample succeeds; else both counters move and the window may end. -/
theorem sample_eq (expected rb : Bool) (t : SelfTest) :
    sample expected rb t =
      if rb = expected ∧ t.stateTicks ≤ 1 then (.success, { t with stateTicks := 0 })
      else
        (if t.pollingTimeout ≤ 1 then .timeout else .pending,
          { t with
            stateTicks := if rb = expected then t.stateTicks - 1 else 5
            pollingTimeout := t.pollingTimeout - 1 }) := by
  have h1 : t.stateTicks - 1 = 0 ↔ t.stateTicks ≤ 1 := by omega
  have h2 : t.pollingTimeout - 1 = 0 ↔ t.pollingTimeout ≤ 1 := by omega
  simp only [sample, h1, h2, Config.stateTicksInit]
  by_cases h : rb = expected ∧ t.stateTicks ≤ 1
  · rw [if_pos h, if_pos h, h1.2 h.2]
  · rw [if_neg h, if_neg h]; split <;> rfl

/-- `sample`, case by case: what a caller may assume of its answer. -/
theorem sample_cases (expected rb : Bool) (t : SelfTest) :
    (∃ t', sample expected rb t = (.success, t') ∧ rb = expected ∧ t.stateTicks ≤ 1
        ∧ t' = { t with stateTicks := 0 })
    ∨ (∃ t', sample expected rb t = (.timeout, t') ∧ t.pollingTimeout ≤ 1
        ∧ t' = { t with stateTicks := if rb = expected then t.stateTicks - 1 else 5, pollingTimeout := 0 }
        ∧ (rb = expected → 1 < t.stateTicks))
    ∨ (∃ t', sample expected rb t = (.pending, t') ∧ 1 < t.pollingTimeout
        ∧ t' =
          { t with
            stateTicks := if rb = expected then t.stateTicks - 1 else 5, pollingTimeout := t.pollingTimeout - 1 }
        ∧ (rb = expected → 1 < t.stateTicks)) := by
  rw [sample_eq]
  by_cases h : rb = expected ∧ t.stateTicks ≤ 1
  · exact .inl ⟨_, if_pos h, h.1, h.2, rfl⟩
  · have hs : rb = expected → 1 < t.stateTicks := fun hr => by
      by_contra hc
      exact h ⟨hr, by omega⟩
    rw [if_neg h]
    by_cases hp : t.pollingTimeout ≤ 1
    · refine .inr (.inl ⟨_, by rw [if_pos hp], hp, ?_, hs⟩)
      rw [show t.pollingTimeout - 1 = 0 by omega]
    · exact .inr (.inr ⟨_, by rw [if_neg hp], by omega, rfl, hs⟩)

/-- The frame of the self-test and of the watchdog: `t` differs from `s` in the triple, the self-test registers and the
error store at most. -/
abbrev SameButGuards (s t : State) : Prop :=
  t = { s with watchdog := t.watchdog, selfTest := t.selfTest, errors := t.errors }

theorem SameButGuards.trans {s t u : State} (h : SameButGuards s t) (h' : SameButGuards t u) : SameButGuards s u := by
  unfold SameButGuards at *
  rw [h', h]

theorem withSelfTest_guards (t : SelfTest) : SameButGuards s (s.withSelfTest t) := rfl

theorem fail_guards (code : Word) : SameButGuards s (fail code s) := by
  unfold SameButGuards
  rw [fail_eq]

theorem handleInitial_guards (rb : Bool) : SameButGuards s (handleInitial rb s) := by
  unfold handleInitial
  rcases sample_cases false rb s.selfTest with ⟨t, h, _⟩ | ⟨t, h, _⟩ | ⟨t, h, _⟩ <;> rw [h]
  · exact rfl
  · exact (withSelfTest_guards s t).trans (fail_guards _ _)
  · exact rfl

theorem handleExpectOff_guards (rb : Bool) : SameButGuards s (handleExpectOff rb s) := by
  unfold handleExpectOff
  rcases sample_cases false rb s.selfTest with ⟨t, h, _⟩ | ⟨t, h, _⟩ | ⟨t, h, _⟩ <;> rw [h]
  · exact rfl
  · exact (withSelfTest_guards s t).trans (fail_guards _ _)
  · exact rfl

theorem handleExpectOn_guards (rb : Bool) : SameButGuards s (handleExpectOn rb s) := by
  unfold handleExpectOn
  rcases sample_cases true rb (confirm s).selfTest with ⟨t, h, _⟩ | ⟨t, h, _⟩ | ⟨t, h, _⟩ <;> simp only [h]
  · exact rfl
  · exact (withSelfTest_guards s _).trans ((withSelfTest_guards _ t).trans (fail_guards _ _))
  · exact rfl

theorem handlePassed_guards : SameButGuards s (handlePassed s) := by
  unfold handlePassed
  dsimp only
  by_cases hr : (confirm s).selfTest.requestFlag = true
  · rw [if_pos hr]; exact rfl
  · rw [if_neg hr]
    split
    · exact (withSelfTest_guards s _).trans ((withSelfTest_guards _ _).trans (fail_guards _ _))
    · exact rfl

/-- `selftest_handler` (R170) writes only the watchdog triple, the self-test registers and the error store. -/
theorem selftestHandler_guards (rb : Bool) : SameButGuards s (selftestHandler rb s) := by
  unfold selftestHandler
  split
  · exact handleInitial_guards s rb
  · exact handlePassed_guards s
  · exact handleExpectOn_guards s rb
  · exact handleExpectOff_guards s rb
  · unfold SameButGuards; rw [forceError_eq]

/-- All that `selftest_handler` can do (R170 to R176), once: a test passes, the first half of the repeated test ends, a
requested test starts, a window goes on, the interval goes on, the test fails, or the failed test forces the watchdog. -/
theorem selftestHandler_cases (rb : Bool) :
    (∃ mask, (s.selfTest.testState = .initial ∨ s.selfTest.testState = .repeatedExpectOff)
        ∧ selftestHandler rb s = passTest mask s)
    ∨ (s.selfTest.testState = .repeatedExpectOn ∧
        selftestHandler rb s =
          s.withSelfTest (enter .repeatedExpectOff { s.selfTest with confirmationFlag := true }))
    ∨ (s.selfTest.testState = .passed ∧ s.selfTest.requestFlag = true ∧
        selftestHandler rb s =
          s.withSelfTest
            (enter .repeatedExpectOn { s.selfTest with requestFlag := false, confirmationFlag := true }))
    ∨ (∃ (k : Nat) (c : Bool),
        (s.selfTest.testState = .initial ∨ s.selfTest.testState = .repeatedExpectOn
            ∨ s.selfTest.testState = .repeatedExpectOff)
        ∧ (k = 5 ∨ 1 < s.selfTest.stateTicks ∧ k = s.selfTest.stateTicks - 1) ∧ 1 < s.selfTest.pollingTimeout
        ∧ (s.selfTest.testState = .initial → c = s.selfTest.confirmationFlag) ∧
        selftestHandler rb s =
          s.withSelfTest
            { s.selfTest with
              stateTicks := k, pollingTimeout := s.selfTest.pollingTimeout - 1, confirmationFlag := c })
    ∨ (s.selfTest.testState = .passed ∧ s.selfTest.remainingUntilNextTest ≠ 1 ∧ s.selfTest.remainingUntilNextTest ≠ 0 ∧
        selftestHandler rb s =
          s.withSelfTest
            { s.selfTest with
              remainingUntilNextTest := s.selfTest.remainingUntilNextTest - 1, confirmationFlag := true })
    ∨ (∃ (code : Word) (k p n : Nat) (c : Bool),
        s.selfTest.testState ≠ .failed
        ∧ (k = 5 ∨ k = s.selfTest.stateTicks ∨ 1 < s.selfTest.stateTicks ∧ k = s.selfTest.stateTicks - 1)
        ∧ p ≤ s.selfTest.pollingTimeout ∧ n ≤ s.selfTest.remainingUntilNextTest ∧
        selftestHandler rb s =
          fail code
            (s.withSelfTest
              { s.selfTest with
                stateTicks := k, pollingTimeout := p, remainingUntilNextTest := n, confirmationFlag := c }))
    ∨ (s.selfTest.testState = .failed ∧ selftestHandler rb s = forceError s) := by
  unfold selftestHandler
  cases hs : s.selfTest.testState <;> dsimp only
  · unfold handleInitial
    rcases sample_cases false rb s.selfTest with ⟨t, h, _, _, rfl⟩ | ⟨t, h, hp, rfl, hk⟩ | ⟨t, h, hp, rfl, hk⟩ <;> rw [h]
    · exact .inl ⟨_, .inl rfl, rfl⟩
    · refine .inr (.inr (.inr (.inr (.inr (.inl ⟨_, _, 0, _, _, by simp, ?_, by omega, le_rfl, rfl⟩)))))
      by_cases hr : rb = false
      · exact .inr (.inr ⟨hk hr, if_pos hr⟩)
      · exact .inl (if_neg hr)
    · refine .inr (.inr (.inr (.inl ⟨_, _, .inl rfl, ?_, hp, fun _ => rfl, rfl⟩)))
      by_cases hr : rb = false
      · exact .inr ⟨hk hr, if_pos hr⟩
      · exact .inl (if_neg hr)
  · unfold handleExpectOn
    dsimp only
    rcases sample_cases true rb (confirm s).selfTest with ⟨t, h, _, _, rfl⟩ | ⟨t, h, hp, rfl, hk⟩ | ⟨t, h, hp, rfl, hk⟩ <;>
      rw [h]
    · exact .inr (.inl ⟨rfl, rfl⟩)
    · refine .inr (.inr (.inr (.inr (.inr (.inl ⟨_, _, 0, _, _, by simp, ?_, by omega, le_rfl, rfl⟩)))))
      by_cases hr : rb = true
      · exact .inr (.inr ⟨hk hr, if_pos hr⟩)
      · exact .inl (if_neg hr)
    · refine .inr (.inr (.inr (.inl ⟨_, _, .inr (.inl rfl), ?_, hp, (nomatch ·), rfl⟩)))
      by_cases hr : rb = true
      · exact .inr ⟨hk hr, if_pos hr⟩
      · exact .inl (if_neg hr)
  · unfold handleExpectOff
    rcases sample_cases false rb s.selfTest with ⟨t, h, _, _, rfl⟩ | ⟨t, h, hp, rfl, hk⟩ | ⟨t, h, hp, rfl, hk⟩ <;> rw [h]
    · exact .inl ⟨_, .inr rfl, rfl⟩
    · refine .inr (.inr (.inr (.inr (.inr (.inl ⟨_, _, 0, _, _, by simp, ?_, by omega, le_rfl, rfl⟩)))))
      by_cases hr : rb = false
      · exact .inr (.inr ⟨hk hr, if_pos hr⟩)
      · exact .inl (if_neg hr)
    · refine .inr (.inr (.inr (.inl ⟨_, _, .inr (.inr rfl), ?_, hp, (nomatch ·), rfl⟩)))
      by_cases hr : rb = false
      · exact .inr ⟨hk hr, if_pos hr⟩
      · exact .inl (if_neg hr)
  · unfold handlePassed
    dsimp only
    by_cases hr : (confirm s).selfTest.requestFlag = true
    · rw [if_pos hr]
      exact .inr (.inr (.inl ⟨rfl, hr, rfl⟩))
    · rw [if_neg hr]
      by_cases h0 : (confirm s).selfTest.remainingUntilNextTest - 1 = 0
      · rw [if_pos (by exact h0)]
        exact .inr (.inr (.inr (.inr (.inr (.inl
          ⟨_, _, _, _, _, by simp, .inr (.inl rfl), le_rfl, Nat.sub_le _ 1, rfl⟩)))))
      · rw [if_neg (by exact h0)]
        have h1 : s.selfTest.remainingUntilNextTest - 1 ≠ 0 := h0
        exact .inr (.inr (.inr (.inr (.inl ⟨rfl, by omega, by omega, rfl⟩))))
  · exact .inr (.inr (.inr (.inr (.inr (.inr ⟨rfl, rfl⟩)))))

/-- The triple after `selftest_handler`: untouched, or forced into `Error` (R156). -/
theorem selftestHandler_watchdog (rb : Bool) :
    (selftestHandler rb s).watchdog = s.watchdog
    ∨ s.watchdog.state ≠ .error ∧ (selftestHandler rb s).selfTest.testState = .failed ∧
      (selftestHandler rb s).watchdog =
        { state := .error, counter := 0, resetLockCounter := s.watchdog.resetLockCounter - 1 } := by
  rcases selftestHandler_cases s rb with ⟨_, _, h⟩ | ⟨_, h⟩ | ⟨_, _, h⟩ | ⟨_, _, _, _, _, _, h⟩ | ⟨_, _, _, h⟩
      | ⟨_, _, _, _, _, _, _, _, _, h⟩ | ⟨hf, h⟩ <;> rw [h]
  · exact .inl rfl
  · exact .inl rfl
  · exact .inl rfl
  · exact .inl rfl
  · exact .inl rfl
  · rw [fail_eq]
    by_cases he : s.watchdog.state = .error
    · exact .inl (if_pos he)
    · exact .inr ⟨he, rfl, if_neg he⟩
  · rw [forceError_eq]
    by_cases he : s.watchdog.state = .error
    · exact .inl (if_pos he)
    · exact .inr ⟨he, hf, if_neg he⟩

/-- `watchdog.tick` leaves the self-test registers alone. -/
theorem watchdogTick_selfTest : (watchdogTick s).selfTest = s.selfTest := by
  unfold watchdogTick
  split
  · split
    · split
      · rw [enterError_eq]; rfl
      · rfl
    · rw [enterError_eq]
  · rfl
  · rfl

/-- `watchdog.tick` (R153), state by state. -/
theorem watchdogTick_eq :
    watchdogTick s =
      match s.watchdog.state with
      | .init => s
      | .error =>
        { s with watchdog := { s.watchdog with resetLockCounter := s.watchdog.resetLockCounter - 1 } }
      | .ok =>
        if 1 < s.watchdog.counter then
          { s with watchdog := { s.watchdog with counter := s.watchdog.counter - 1 } }
        else
          enterError (some (if s.watchdog.counter = 1 then 0x1000 else 0x1002)) s := by
  unfold watchdogTick
  cases hs : s.watchdog.state
  · rfl
  · dsimp only
    rcases Nat.lt_trichotomy s.watchdog.counter 1 with h | h | h
    · have h0 : s.watchdog.counter = 0 := by omega
      rw [if_neg (by omega), if_neg (by omega), if_neg (by omega)]; rfl
    · rw [if_pos (by omega), if_pos (by omega), if_neg (by omega), if_pos h]
      simp only [enterError_eq, Watchdog.enterError_eq, State.withWatchdog, Config.watchdogNotTriggered]
    · rw [if_pos (by omega), if_neg (by omega), if_pos h]; rfl
  · simp only [countDown_eq, State.withWatchdog]

theorem watchdogTick_guards : SameButGuards s (watchdogTick s) := by
  unfold SameButGuards
  rw [watchdogTick_eq]
  cases s.watchdog.state
  · rfl
  · dsimp only
    split
    · rfl
    · rw [enterError_eq]
  · rfl

/-- `trigger` (R157) writes only the watchdog triple, the self-test registers and the error store. -/
theorem trigger_guards (rb : Bool) : SameButGuards s (trigger rb s).2 :=
  (selftestHandler_guards s rb).trans ((watchdogTick_guards _).trans (withSelfTest_guards _ _))

end Sys2Proof.Machine
end

