-- ==== Sys2Proof/Laws/Receiver.lean ====
section
/-! SUPPORT. The six commands (47_commands.md) and the receiver (46_receiver.md): what each writes, once, and what a frame
and a received byte can do. -/

namespace Sys2Proof.Machine

variable (s : State)

/-- `exec_V` (R250). -/
theorem commandV_eq :
    commandV s =
      { s with
        receiver :=
          { s.receiver with
            versionGate := true, nextExpectedFrameNumber := s.receiver.nextExpectedFrameNumber + 1 }
        sent := s.sent ++ [responseLine s.receiver.nextExpectedFrameNumber (bodyV s.params.version)] } := rfl

/-- `watchdog.set` (R151) writes only the triple and the latch. -/
theorem watchdogSet_eq (v : Word) :
    watchdogSet v s = { s with watchdog := (watchdogSet v s).watchdog, errors := (watchdogSet v s).errors } := by
  unfold watchdogSet
  cases s.watchdog.state
  · dsimp only; split <;> rfl
  · dsimp only
    split
    · rfl
    · rw [enterError_eq]
  · rfl

/-- `exec_W` (R251). -/
theorem commandW_eq (v : Word) :
    commandW v s =
      { s with
        watchdog := (watchdogSet v s).watchdog
        errors := (watchdogSet v s).errors
        receiver := { s.receiver with nextExpectedFrameNumber := s.receiver.nextExpectedFrameNumber + 1 }
        sent := s.sent ++
          [responseLine s.receiver.nextExpectedFrameNumber
            (bodyW (running s) (running (watchdogSet v s)) (lockRequired (watchdogSet v s)))] } := by
  have h := watchdogSet_eq s v
  simp only [commandW, ack_eq]
  rw [show (watchdogSet v s).receiver = s.receiver by rw [h],
    show (watchdogSet v s).sent = s.sent by rw [h]]
  generalize bodyW (running s) (running (watchdogSet v s)) (lockRequired (watchdogSet v s)) = b
  generalize watchdogSet v s = u at h
  rw [h]

/-- `exec_S` (R252), for a slot that exists. -/
theorem commandS_eq (i : Fin 7) (v : Word) :
    commandS i v s =
      { s with
        outputs := s.outputs.set i (v == 1)
        receiver := { s.receiver with nextExpectedFrameNumber := s.receiver.nextExpectedFrameNumber + 1 }
        sent := s.sent ++
          [responseLine s.receiver.nextExpectedFrameNumber
            (bodyS (BitVec.ofNat 16 i) s.outputs[i] (v == 1))] } := rfl

/-- `exec_R` (R253), for a slot that exists. -/
theorem commandR_eq (i : Fin 4) :
    commandR i s =
      { s with
        receiver := { s.receiver with nextExpectedFrameNumber := s.receiver.nextExpectedFrameNumber + 1 }
        sent := s.sent ++
          [responseLine s.receiver.nextExpectedFrameNumber (bodyR (BitVec.ofNat 16 i) s.inputs[i])] } := rfl

/-- `exec_D` (R254). -/
theorem commandD_eq :
    commandD s =
      { s with
        errors := { errorNumber := 0, diagnoses := 0, executedTests := 0 }
        receiver := { s.receiver with nextExpectedFrameNumber := s.receiver.nextExpectedFrameNumber + 1 }
        sent := s.sent ++
          [responseLine s.receiver.nextExpectedFrameNumber
            (bodyD s.errors.diagnoses s.errors.errorNumber s.errors.executedTests)] } := rfl

/-- `exec_T` (R255). -/
theorem commandT_eq :
    commandT s =
      { s with
        selfTest :=
          { s.selfTest with
            requestFlag := decide (s.selfTest.testState = .passed) || s.selfTest.requestFlag }
        receiver := { s.receiver with nextExpectedFrameNumber := s.receiver.nextExpectedFrameNumber + 1 }
        sent := s.sent ++
          [responseLine s.receiver.nextExpectedFrameNumber (bodyT (decide (s.selfTest.testState = .passed)))] } := by
  by_cases h : s.selfTest.testState = .passed <;> simp [commandT, requestSelfTest, h, ack_eq, State.withSelfTest]

/-- `nackFor` (R236, R271) with the reason's code. -/
theorem nackFor_eq (reason : NackKind) (f : Bytes) : nackFor reason f s = nack (s.params.nackCode reason) f s := rfl

/-- All that the effect of a frame can be: a NACK with one of the seven reasons of a frame, or one of the six commands behind its checks. -/
def FrameEffect (f : Bytes) (s t : State) : Prop :=
  (∃ reason, reason ≠ .overflow ∧ t = nackFor reason f s)
  ∨ t = commandV s
  ∨ (∃ v : Word, s.receiver.versionGate = true ∧ v.toNat ≤ 1 ∧ t = commandW v s)
  ∨ (∃ (i : Fin 7) (v : Word), v.toNat ≤ 1 ∧ t = commandS i v s)
  ∨ (∃ i : Fin 4, t = commandR i s)
  ∨ t = commandD s
  ∨ t = commandT s

theorem runCommand_effect (cmd f : Bytes) (args : List Word) : FrameEffect f s (runCommand cmd f args s) := by
  unfold runCommand
  split
  · unfold runV; split
    · exact .inr (.inl rfl)
    · exact .inl ⟨_, by decide, rfl⟩
  · unfold runW; split
    · split
      · exact .inl ⟨_, by decide, rfl⟩
      · split
        · exact .inl ⟨_, by decide, rfl⟩
        · rename_i v hg hv
          exact .inr (.inr (.inl ⟨v, by simpa using hg, by omega, rfl⟩))
    · exact .inl ⟨_, by decide, rfl⟩
  · unfold runS; split
    · split
      · split
        · exact .inl ⟨_, by decide, rfl⟩
        · rename_i i v h hv
          exact .inr (.inr (.inr (.inl ⟨⟨i.toNat, h⟩, v, by omega, rfl⟩)))
      · exact .inl ⟨_, by decide, rfl⟩
    · exact .inl ⟨_, by decide, rfl⟩
  · unfold runR; split
    · split
      · exact .inr (.inr (.inr (.inr (.inl ⟨_, rfl⟩))))
      · exact .inl ⟨_, by decide, rfl⟩
    · exact .inl ⟨_, by decide, rfl⟩
  · unfold runD; split
    · exact .inr (.inr (.inr (.inr (.inr (.inl rfl)))))
    · exact .inl ⟨_, by decide, rfl⟩
  · unfold runT; split
    · exact .inr (.inr (.inr (.inr (.inr (.inr rfl)))))
    · exact .inl ⟨_, by decide, rfl⟩
  · exact .inl ⟨_, by decide, rfl⟩

/-- `handle_frame` (R224), once. -/
theorem handleFrame_effect (f : Bytes) : FrameEffect f s (handleFrame f s) := by
  unfold handleFrame
  split
  · exact .inl ⟨_, by decide, rfl⟩
  · unfold checkFrame
    split
    · split
      · exact .inl ⟨_, by decide, rfl⟩
      · split
        · exact .inl ⟨_, by decide, rfl⟩
        · exact runCommand_effect s _ _ _
    · exact .inl ⟨_, by decide, rfl⟩

/-- A command token and payload that reach a command's effect are a request (R231, R232); all else is a NACK with one of the
seven reasons a frame can have. -/
theorem runCommand_nack_or_decoded (r : RawFrame) (f : Bytes) (args : List Word) (ha : parseAll r.payload = some args) :
    (∃ reason, reason ≠ .overflow ∧ runCommand r.cmd f args s = nackFor reason f s)
    ∨ ∃ i, decodeRequest r = .ok i := by
  have hl : r.payload.length = args.length := ((parseAll_eq_some _ _).1 ha).length_eq
  unfold runCommand decodeRequest
  cases hc : commandOf r.cmd with
  | none => exact .inl ⟨_, by decide, rfl⟩
  | some c =>
    rcases args with _ | ⟨x, _ | ⟨y, _ | ⟨z, rest⟩⟩⟩ <;>
      rcases hp : r.payload with _ | ⟨a, _ | ⟨b, _ | ⟨d, more⟩⟩⟩ <;>
      simp only [hp, List.length_cons, List.length_nil] at hl <;>
      first
        | omega
        | (cases c <;> first | exact .inr ⟨_, rfl⟩ | exact .inl ⟨.invalidFrame, by decide, rfl⟩)

/-- `handle_frame` (R224): a NACK with one of the seven reasons of a frame, or the frame decodes to a request. -/
theorem handleFrame_nack_or_decoded (f : Bytes) :
    (∃ reason, reason ≠ .overflow ∧ handleFrame f s = nackFor reason f s) ∨ ∃ i, decode f = .ok i := by
  unfold handleFrame decode
  cases ht : tokenise f with
  | none => exact .inl ⟨_, by decide, rfl⟩
  | some r =>
    dsimp only
    unfold checkFrame
    cases h1 : parseU16 r.fno with
    | none => exact .inl ⟨_, by decide, rfl⟩
    | some n =>
      cases h2 : parseAll r.payload with
      | none => exact .inl ⟨_, by decide, rfl⟩
      | some args =>
        cases h3 : parseU16 r.crc with
        | none => exact .inl ⟨_, by decide, rfl⟩
        | some c =>
          dsimp only
          by_cases hn : n = s.receiver.nextExpectedFrameNumber
          · by_cases hc : c = crcWhole (crcCover f r.crc)
            · rw [if_neg (not_not_intro hn), if_neg (not_not_intro hc)]
              exact runCommand_nack_or_decoded s r f args h2
            · rw [if_neg (not_not_intro hn), if_pos hc]
              exact .inl ⟨_, by decide, rfl⟩
          · rw [if_pos hn]
            exact .inl ⟨_, by decide, rfl⟩

/-- The seven NACK codes a frame can have (60_exceptions.md R271). -/
theorem nackCode_mem (p : Config.Params) (reason : NackKind) (h : reason ≠ .overflow) :
    p.nackCode reason ∈
      [p.eInvalidFrame, p.eInvalidCommand, p.eInvalidCrc, 4, p.eInvalidStartup, 6, p.eInvalidValue] := by
  cases reason <;> simp_all [Config.Params.nackCode]

/-- `RX` (R220 to R223), once: a data byte is stored or dropped, a terminator ends resync or hands the frame over. -/
theorem receive_cases (b : Byte) :
    (isTerminator b = true ∧ s.receiver.overflow = true ∧ receive b s = endResync s)
    ∨ (isTerminator b = true ∧ s.receiver.overflow = false
        ∧ FrameEffect s.receiver.frame { s with receiver := { s.receiver with requestIndex := 0 } } (receive b s))
    ∨ (isTerminator b = false ∧
        receive b s =
          { s with
            receiver :=
              if s.receiver.overflow then s.receiver
              else if s.receiver.requestIndex = 20 then { s.receiver with overflow := true }
              else s.receiver.push b }) := by
  unfold receive
  cases ht : isTerminator b
  · refine .inr (.inr ⟨rfl, ?_⟩)
    simp only [Bool.false_eq_true, if_false]
    unfold dataByte
    split
    · rfl
    · split <;> rename_i h
      · rw [if_pos (by exact h)]; rfl
      · rw [if_neg (by exact h)]; rfl
  · cases ho : s.receiver.overflow
    · exact .inr (.inl ⟨rfl, rfl, handleFrame_effect _ _⟩)
    · exact .inl ⟨rfl, rfl, rfl⟩

/-- A terminator in resync (R223). -/
theorem endResync_eq :
    endResync s =
      { s with
        receiver := { s.receiver with overflow := false, requestIndex := 0 }
        errors := { s.errors with diagnoses := s.errors.diagnoses ||| s.params.nackMask 8 }
        sent := s.sent ++ [responseLine s.receiver.nextExpectedFrameNumber bodyOverflow] } := rfl

end Sys2Proof.Machine
end

