-- ==== Sys2Proof/Laws/Tick.lean ====
section
/-! SUPPORT. The cyclic task (44_cyclic_task.md), step by step: what each step writes and what it leaves. -/

namespace Sys2Proof.Machine

variable (s : State)

@[simp] theorem toggleHighCycle_cyclic :
    (toggleHighCycle s).cyclic = { s.cyclic with highCycle := !s.cyclic.highCycle } := rfl
@[simp] theorem toggleHighCycle_outputs : (toggleHighCycle s).outputs = s.outputs := rfl
@[simp] theorem toggleHighCycle_inputs : (toggleHighCycle s).inputs = s.inputs := rfl
@[simp] theorem toggleHighCycle_watchdog : (toggleHighCycle s).watchdog = s.watchdog := rfl
@[simp] theorem toggleHighCycle_selfTest : (toggleHighCycle s).selfTest = s.selfTest := rfl
@[simp] theorem toggleHighCycle_errors : (toggleHighCycle s).errors = s.errors := rfl
@[simp] theorem toggleHighCycle_receiver : (toggleHighCycle s).receiver = s.receiver := rfl
@[simp] theorem toggleHighCycle_pins : (toggleHighCycle s).pins = s.pins := rfl
@[simp] theorem toggleHighCycle_burst : (toggleHighCycle s).burst = s.burst := rfl
@[simp] theorem toggleHighCycle_params : (toggleHighCycle s).params = s.params := rfl
@[simp] theorem toggleHighCycle_ret : (toggleHighCycle s).ret = s.ret := rfl
@[simp] theorem toggleHighCycle_pending : (toggleHighCycle s).pending = s.pending := rfl
@[simp] theorem toggleHighCycle_sent : (toggleHighCycle s).sent = s.sent := rfl
@[simp] theorem toggleHighCycle_gpio : (toggleHighCycle s).gpio = s.gpio := rfl

section
variable (permit : Bool)
/-- Step 3 (R193): one write of `WD`. -/
theorem driveWatchdogPin_eq : driveWatchdogPin permit s = gpioWrite .wd (permit && s.cyclic.highCycle) s := by
  cases permit <;> rfl
@[simp] theorem driveWatchdogPin_pins :
    (driveWatchdogPin permit s).pins = { s.pins with wdPin := permit && s.cyclic.highCycle } := by
  rw [driveWatchdogPin_eq]; rfl
@[simp] theorem driveWatchdogPin_gpio :
    (driveWatchdogPin permit s).gpio = s.gpio ++ [.write .wd (permit && s.cyclic.highCycle)] := by
  rw [driveWatchdogPin_eq]; rfl
@[simp] theorem driveWatchdogPin_outputs : (driveWatchdogPin permit s).outputs = s.outputs := by rw [driveWatchdogPin_eq]; rfl
@[simp] theorem driveWatchdogPin_inputs : (driveWatchdogPin permit s).inputs = s.inputs := by rw [driveWatchdogPin_eq]; rfl
@[simp] theorem driveWatchdogPin_watchdog : (driveWatchdogPin permit s).watchdog = s.watchdog := by rw [driveWatchdogPin_eq]; rfl
@[simp] theorem driveWatchdogPin_selfTest : (driveWatchdogPin permit s).selfTest = s.selfTest := by rw [driveWatchdogPin_eq]; rfl
@[simp] theorem driveWatchdogPin_errors : (driveWatchdogPin permit s).errors = s.errors := by rw [driveWatchdogPin_eq]; rfl
@[simp] theorem driveWatchdogPin_receiver : (driveWatchdogPin permit s).receiver = s.receiver := by rw [driveWatchdogPin_eq]; rfl
@[simp] theorem driveWatchdogPin_cyclic : (driveWatchdogPin permit s).cyclic = s.cyclic := by rw [driveWatchdogPin_eq]; rfl
@[simp] theorem driveWatchdogPin_burst : (driveWatchdogPin permit s).burst = s.burst := by rw [driveWatchdogPin_eq]; rfl
@[simp] theorem driveWatchdogPin_params : (driveWatchdogPin permit s).params = s.params := by rw [driveWatchdogPin_eq]; rfl
@[simp] theorem driveWatchdogPin_ret : (driveWatchdogPin permit s).ret = s.ret := by rw [driveWatchdogPin_eq]; rfl
@[simp] theorem driveWatchdogPin_pending : (driveWatchdogPin permit s).pending = s.pending := by rw [driveWatchdogPin_eq]; rfl
@[simp] theorem driveWatchdogPin_sent : (driveWatchdogPin permit s).sent = s.sent := by rw [driveWatchdogPin_eq]; rfl
end

/-- Step 4 (R194, R195): a locking edge, an unlocking edge, or nothing. -/
theorem sequenceLock_cases :
    (s.watchdog.resetLockCounter ≠ 0 ∧ s.cyclic.lockPinLocked = false ∧
      sequenceLock s =
        { s with
          pins := { s.pins with lockPin := .drivenHigh, lockPullUp := true }
          cyclic := { s.cyclic with lockPinLocked := true }
          gpio := s.gpio ++ [.mode .lock .output, .write .lock true] })
    ∨ (s.watchdog.resetLockCounter = 0 ∧ s.cyclic.lockPinLocked = true ∧
      sequenceLock s =
        { s with
          pins := (s.pins.write .lock false).setMode .lock .inputTriState
          cyclic := { s.cyclic with lockPinLocked := false }
          gpio := s.gpio ++ [.write .lock false, .mode .lock .inputTriState] })
    ∨ ((s.watchdog.resetLockCounter ≠ 0 ↔ s.cyclic.lockPinLocked = true) ∧ sequenceLock s = s) := by
  have hl : lockRequired s = decide (s.watchdog.resetLockCounter ≠ 0) := by
    by_cases h : s.watchdog.resetLockCounter = 0 <;> simp [lockRequired, h]
  by_cases h1 : s.watchdog.resetLockCounter = 0 <;> cases h2 : s.cyclic.lockPinLocked
  · exact .inr (.inr ⟨by simp [h1], by simp [sequenceLock, hl, h1, h2]⟩)
  · refine .inr (.inl ⟨h1, rfl, ?_⟩)
    simp [sequenceLock, hl, h1, h2, gpioWrite_eq, gpioMode_eq, State.withCyclic]
  · refine .inl ⟨h1, rfl, ?_⟩
    simp [sequenceLock, hl, h1, h2, gpioWrite_eq, gpioMode_eq, State.withCyclic, Pins.lock_high]
  · exact .inr (.inr ⟨by simp [h1], by simp [sequenceLock, hl, h1, h2]⟩)
@[simp] theorem sequenceLock_outputs : (sequenceLock s).outputs = s.outputs := by
  rcases sequenceLock_cases s with ⟨_, _, h⟩ | ⟨_, _, h⟩ | ⟨_, h⟩ <;> rw [h]
@[simp] theorem sequenceLock_inputs : (sequenceLock s).inputs = s.inputs := by
  rcases sequenceLock_cases s with ⟨_, _, h⟩ | ⟨_, _, h⟩ | ⟨_, h⟩ <;> rw [h]
@[simp] theorem sequenceLock_watchdog : (sequenceLock s).watchdog = s.watchdog := by
  rcases sequenceLock_cases s with ⟨_, _, h⟩ | ⟨_, _, h⟩ | ⟨_, h⟩ <;> rw [h]
@[simp] theorem sequenceLock_selfTest : (sequenceLock s).selfTest = s.selfTest := by
  rcases sequenceLock_cases s with ⟨_, _, h⟩ | ⟨_, _, h⟩ | ⟨_, h⟩ <;> rw [h]
@[simp] theorem sequenceLock_errors : (sequenceLock s).errors = s.errors := by
  rcases sequenceLock_cases s with ⟨_, _, h⟩ | ⟨_, _, h⟩ | ⟨_, h⟩ <;> rw [h]
@[simp] theorem sequenceLock_receiver : (sequenceLock s).receiver = s.receiver := by
  rcases sequenceLock_cases s with ⟨_, _, h⟩ | ⟨_, _, h⟩ | ⟨_, h⟩ <;> rw [h]
@[simp] theorem sequenceLock_burst : (sequenceLock s).burst = s.burst := by
  rcases sequenceLock_cases s with ⟨_, _, h⟩ | ⟨_, _, h⟩ | ⟨_, h⟩ <;> rw [h]
@[simp] theorem sequenceLock_params : (sequenceLock s).params = s.params := by
  rcases sequenceLock_cases s with ⟨_, _, h⟩ | ⟨_, _, h⟩ | ⟨_, h⟩ <;> rw [h]
@[simp] theorem sequenceLock_ret : (sequenceLock s).ret = s.ret := by
  rcases sequenceLock_cases s with ⟨_, _, h⟩ | ⟨_, _, h⟩ | ⟨_, h⟩ <;> rw [h]
@[simp] theorem sequenceLock_pending : (sequenceLock s).pending = s.pending := by
  rcases sequenceLock_cases s with ⟨_, _, h⟩ | ⟨_, _, h⟩ | ⟨_, h⟩ <;> rw [h]
@[simp] theorem sequenceLock_sent : (sequenceLock s).sent = s.sent := by
  rcases sequenceLock_cases s with ⟨_, _, h⟩ | ⟨_, _, h⟩ | ⟨_, h⟩ <;> rw [h]
@[simp] theorem sequenceLock_highCycle : (sequenceLock s).cyclic.highCycle = s.cyclic.highCycle := by
  rcases sequenceLock_cases s with ⟨_, _, h⟩ | ⟨_, _, h⟩ | ⟨_, h⟩ <;> rw [h]
@[simp] theorem sequenceLock_ledTicks : (sequenceLock s).cyclic.ledTicks = s.cyclic.ledTicks := by
  rcases sequenceLock_cases s with ⟨_, _, h⟩ | ⟨_, _, h⟩ | ⟨_, h⟩ <;> rw [h]
@[simp] theorem sequenceLock_wdPin : (sequenceLock s).pins.wdPin = s.pins.wdPin := by
  rcases sequenceLock_cases s with ⟨_, _, h⟩ | ⟨_, _, h⟩ | ⟨_, h⟩ <;> rw [h]
  simp only [Pins.setMode, Pins.write]; split <;> rfl
@[simp] theorem sequenceLock_outPin : (sequenceLock s).pins.outPin = s.pins.outPin := by
  rcases sequenceLock_cases s with ⟨_, _, h⟩ | ⟨_, _, h⟩ | ⟨_, h⟩ <;> rw [h]
  simp only [Pins.setMode, Pins.write]; split <;> rfl
@[simp] theorem sequenceLock_ledLevel : (sequenceLock s).pins.ledLevel = s.pins.ledLevel := by
  rcases sequenceLock_cases s with ⟨_, _, h⟩ | ⟨_, _, h⟩ | ⟨_, h⟩ <;> rw [h]
  simp only [Pins.setMode, Pins.write]; split <;> rfl

/-- Step 5 (R196): the seven pins hold their levels, one write each, in index order. -/
theorem driveOutputs_eq :
    driveOutputs s =
      { s with
        pins := { s.pins with outPin := Vector.ofFn (outLevel s) }
        gpio := s.gpio ++ [0, 1, 2, 3, 4, 5, 6].map (fun i : Fin 7 => .write (.out i) (outLevel s i)) } := by
  have hv : ((((((s.pins.outPin.set 0 (outLevel s 0)).set 1 (outLevel s 1)).set 2 (outLevel s 2)).set 3
      (outLevel s 3)).set 4 (outLevel s 4)).set 5 (outLevel s 5)).set 6 (outLevel s 6)
      = Vector.ofFn (outLevel s) := by
    ext i hi
    have : i = 0 ∨ i = 1 ∨ i = 2 ∨ i = 3 ∨ i = 4 ∨ i = 5 ∨ i = 6 := by omega
    rcases this with rfl | rfl | rfl | rfl | rfl | rfl | rfl <;> simp
  rw [← hv]
  simp [driveOutputs, List.foldl, driveOutput, gpioWrite_eq, outLevel]
@[simp] theorem driveOutputs_pins :
    (driveOutputs s).pins = { s.pins with outPin := Vector.ofFn (outLevel s) } := by rw [driveOutputs_eq]
@[simp] theorem driveOutputs_gpio :
    (driveOutputs s).gpio =
      s.gpio ++ [0, 1, 2, 3, 4, 5, 6].map (fun i : Fin 7 => .write (.out i) (outLevel s i)) := by
  rw [driveOutputs_eq]
@[simp] theorem driveOutputs_outputs : (driveOutputs s).outputs = s.outputs := by rw [driveOutputs_eq]
@[simp] theorem driveOutputs_inputs : (driveOutputs s).inputs = s.inputs := by rw [driveOutputs_eq]
@[simp] theorem driveOutputs_watchdog : (driveOutputs s).watchdog = s.watchdog := by rw [driveOutputs_eq]
@[simp] theorem driveOutputs_selfTest : (driveOutputs s).selfTest = s.selfTest := by rw [driveOutputs_eq]
@[simp] theorem driveOutputs_errors : (driveOutputs s).errors = s.errors := by rw [driveOutputs_eq]
@[simp] theorem driveOutputs_receiver : (driveOutputs s).receiver = s.receiver := by rw [driveOutputs_eq]
@[simp] theorem driveOutputs_cyclic : (driveOutputs s).cyclic = s.cyclic := by rw [driveOutputs_eq]
@[simp] theorem driveOutputs_burst : (driveOutputs s).burst = s.burst := by rw [driveOutputs_eq]
@[simp] theorem driveOutputs_params : (driveOutputs s).params = s.params := by rw [driveOutputs_eq]
@[simp] theorem driveOutputs_ret : (driveOutputs s).ret = s.ret := by rw [driveOutputs_eq]
@[simp] theorem driveOutputs_pending : (driveOutputs s).pending = s.pending := by rw [driveOutputs_eq]
@[simp] theorem driveOutputs_sent : (driveOutputs s).sent = s.sent := by rw [driveOutputs_eq]

section
variable (levels : Vector Bool 4)
/-- Step 6 (R197): the inputs are the levels read, one read each, in index order. -/
theorem sampleInputs_eq :
    sampleInputs levels s =
      { s with
        inputs := levels
        gpio := s.gpio ++ [.read (.inp 0), .read (.inp 1), .read (.inp 2), .read (.inp 3)] } := by
  have hv : (((s.inputs.set 0 levels[0]).set 1 levels[1]).set 2 levels[2]).set 3 levels[3] = levels := by
    ext i hi
    have : i = 0 ∨ i = 1 ∨ i = 2 ∨ i = 3 := by omega
    rcases this with rfl | rfl | rfl | rfl <;> simp
  conv_rhs => rw [← hv]
  simp [sampleInputs, List.foldl, sampleInput, gpioRead_eq, State.withInputs]
@[simp] theorem sampleInputs_inputs : (sampleInputs levels s).inputs = levels := by rw [sampleInputs_eq]
@[simp] theorem sampleInputs_gpio :
    (sampleInputs levels s).gpio =
      s.gpio ++ [.read (.inp 0), .read (.inp 1), .read (.inp 2), .read (.inp 3)] := by rw [sampleInputs_eq]
@[simp] theorem sampleInputs_outputs : (sampleInputs levels s).outputs = s.outputs := by rw [sampleInputs_eq]
@[simp] theorem sampleInputs_watchdog : (sampleInputs levels s).watchdog = s.watchdog := by rw [sampleInputs_eq]
@[simp] theorem sampleInputs_selfTest : (sampleInputs levels s).selfTest = s.selfTest := by rw [sampleInputs_eq]
@[simp] theorem sampleInputs_errors : (sampleInputs levels s).errors = s.errors := by rw [sampleInputs_eq]
@[simp] theorem sampleInputs_receiver : (sampleInputs levels s).receiver = s.receiver := by rw [sampleInputs_eq]
@[simp] theorem sampleInputs_cyclic : (sampleInputs levels s).cyclic = s.cyclic := by rw [sampleInputs_eq]
@[simp] theorem sampleInputs_pins : (sampleInputs levels s).pins = s.pins := by rw [sampleInputs_eq]
@[simp] theorem sampleInputs_burst : (sampleInputs levels s).burst = s.burst := by rw [sampleInputs_eq]
@[simp] theorem sampleInputs_params : (sampleInputs levels s).params = s.params := by rw [sampleInputs_eq]
@[simp] theorem sampleInputs_ret : (sampleInputs levels s).ret = s.ret := by rw [sampleInputs_eq]
@[simp] theorem sampleInputs_pending : (sampleInputs levels s).pending = s.pending := by rw [sampleInputs_eq]
@[simp] theorem sampleInputs_sent : (sampleInputs levels s).sent = s.sent := by rw [sampleInputs_eq]
end

/-- Step 7 (R198): re-asserted in `Init`, toggled at the period's end, else only counted. -/
theorem driveLed_cases :
    (s.watchdog.state = .init ∧
      driveLed s =
        { s with
          pins := { s.pins with ledLevel := true }
          cyclic := { s.cyclic with ledTicks := 0 }
          gpio := s.gpio ++ [.write .led true] })
    ∨ (s.watchdog.state ≠ .init ∧ ledPeriod s ≤ s.cyclic.ledTicks + 1 ∧
      driveLed s =
        { s with
          pins := { s.pins with ledLevel := !s.pins.ledLevel }
          cyclic := { s.cyclic with ledTicks := 0 }
          gpio := s.gpio ++ [.write .led (!s.pins.ledLevel)] })
    ∨ (s.watchdog.state ≠ .init ∧ s.cyclic.ledTicks + 1 < ledPeriod s ∧
      driveLed s = { s with cyclic := { s.cyclic with ledTicks := s.cyclic.ledTicks + 1 } }) := by
  by_cases h : s.watchdog.state = .init
  · exact .inl ⟨h, by simp [driveLed, h, gpioWrite_eq, State.withCyclic]⟩
  · by_cases h2 : ledPeriod s ≤ s.cyclic.ledTicks + 1
    · exact .inr (.inl ⟨h, h2, by simp [driveLed, h, h2, gpioWrite_eq, State.withCyclic]⟩)
    · exact .inr (.inr ⟨h, by omega, by simp [driveLed, h, h2, State.withCyclic]⟩)
@[simp] theorem driveLed_outputs : (driveLed s).outputs = s.outputs := by
  rcases driveLed_cases s with ⟨_, h⟩ | ⟨_, _, h⟩ | ⟨_, _, h⟩ <;> rw [h]
@[simp] theorem driveLed_inputs : (driveLed s).inputs = s.inputs := by
  rcases driveLed_cases s with ⟨_, h⟩ | ⟨_, _, h⟩ | ⟨_, _, h⟩ <;> rw [h]
@[simp] theorem driveLed_watchdog : (driveLed s).watchdog = s.watchdog := by
  rcases driveLed_cases s with ⟨_, h⟩ | ⟨_, _, h⟩ | ⟨_, _, h⟩ <;> rw [h]
@[simp] theorem driveLed_selfTest : (driveLed s).selfTest = s.selfTest := by
  rcases driveLed_cases s with ⟨_, h⟩ | ⟨_, _, h⟩ | ⟨_, _, h⟩ <;> rw [h]
@[simp] theorem driveLed_errors : (driveLed s).errors = s.errors := by
  rcases driveLed_cases s with ⟨_, h⟩ | ⟨_, _, h⟩ | ⟨_, _, h⟩ <;> rw [h]
@[simp] theorem driveLed_receiver : (driveLed s).receiver = s.receiver := by
  rcases driveLed_cases s with ⟨_, h⟩ | ⟨_, _, h⟩ | ⟨_, _, h⟩ <;> rw [h]
@[simp] theorem driveLed_burst : (driveLed s).burst = s.burst := by
  rcases driveLed_cases s with ⟨_, h⟩ | ⟨_, _, h⟩ | ⟨_, _, h⟩ <;> rw [h]
@[simp] theorem driveLed_params : (driveLed s).params = s.params := by
  rcases driveLed_cases s with ⟨_, h⟩ | ⟨_, _, h⟩ | ⟨_, _, h⟩ <;> rw [h]
@[simp] theorem driveLed_ret : (driveLed s).ret = s.ret := by
  rcases driveLed_cases s with ⟨_, h⟩ | ⟨_, _, h⟩ | ⟨_, _, h⟩ <;> rw [h]
@[simp] theorem driveLed_pending : (driveLed s).pending = s.pending := by
  rcases driveLed_cases s with ⟨_, h⟩ | ⟨_, _, h⟩ | ⟨_, _, h⟩ <;> rw [h]
@[simp] theorem driveLed_sent : (driveLed s).sent = s.sent := by
  rcases driveLed_cases s with ⟨_, h⟩ | ⟨_, _, h⟩ | ⟨_, _, h⟩ <;> rw [h]
@[simp] theorem driveLed_highCycle : (driveLed s).cyclic.highCycle = s.cyclic.highCycle := by
  rcases driveLed_cases s with ⟨_, h⟩ | ⟨_, _, h⟩ | ⟨_, _, h⟩ <;> rw [h]
@[simp] theorem driveLed_lockPinLocked : (driveLed s).cyclic.lockPinLocked = s.cyclic.lockPinLocked := by
  rcases driveLed_cases s with ⟨_, h⟩ | ⟨_, _, h⟩ | ⟨_, _, h⟩ <;> rw [h]
@[simp] theorem driveLed_wdPin : (driveLed s).pins.wdPin = s.pins.wdPin := by
  rcases driveLed_cases s with ⟨_, h⟩ | ⟨_, _, h⟩ | ⟨_, _, h⟩ <;> rw [h]
@[simp] theorem driveLed_outPin : (driveLed s).pins.outPin = s.pins.outPin := by
  rcases driveLed_cases s with ⟨_, h⟩ | ⟨_, _, h⟩ | ⟨_, _, h⟩ <;> rw [h]
@[simp] theorem driveLed_lockPin : (driveLed s).pins.lockPin = s.pins.lockPin := by
  rcases driveLed_cases s with ⟨_, h⟩ | ⟨_, _, h⟩ | ⟨_, _, h⟩ <;> rw [h]
@[simp] theorem driveLed_lockPullUp : (driveLed s).pins.lockPullUp = s.pins.lockPullUp := by
  rcases driveLed_cases s with ⟨_, h⟩ | ⟨_, _, h⟩ | ⟨_, _, h⟩ <;> rw [h]

end Sys2Proof.Machine
end

