-- ==== Sys2Proof/Laws/Events.lean ====
section
/-! SUPPORT. The five events (00_scope.md R12): `trigger` looks at nothing but the guards, what a tick leaves, what a burst
iteration leaves, and what one step can be. -/

namespace Sys2Proof.Machine

variable (s : State)

/-- `s` with other cyclic-task registers and another GPIO record: what stands between `TICK` and its `trigger`. -/
def State.withCyclicGpio (s : State) (c : Cyclic) (g : List GpioOp) : State := { s with cyclic := c, gpio := g }

section
variable (c : Cyclic) (g : List GpioOp)

theorem fail_withCyclicGpio (code : Word) :
    fail code (s.withCyclicGpio c g) = (fail code s).withCyclicGpio c g := by
  simp only [fail_eq, State.withCyclicGpio]

theorem handleInitial_withCyclicGpio (rb : Bool) :
    handleInitial rb (s.withCyclicGpio c g) = (handleInitial rb s).withCyclicGpio c g := by
  have h : (s.withCyclicGpio c g).selfTest = s.selfTest := rfl
  unfold handleInitial
  rw [h]
  rcases sample_cases false rb s.selfTest with ⟨t, h, _⟩ | ⟨t, h, _⟩ | ⟨t, h, _⟩ <;> rw [h]
  · rfl
  · exact fail_withCyclicGpio (s.withSelfTest t) c g _
  · rfl

theorem handleExpectOff_withCyclicGpio (rb : Bool) :
    handleExpectOff rb (s.withCyclicGpio c g) = (handleExpectOff rb s).withCyclicGpio c g := by
  have h : (s.withCyclicGpio c g).selfTest = s.selfTest := rfl
  unfold handleExpectOff
  rw [h]
  rcases sample_cases false rb s.selfTest with ⟨t, h, _⟩ | ⟨t, h, _⟩ | ⟨t, h, _⟩ <;> rw [h]
  · rfl
  · exact fail_withCyclicGpio (s.withSelfTest t) c g _
  · rfl

theorem handleExpectOn_withCyclicGpio (rb : Bool) :
    handleExpectOn rb (s.withCyclicGpio c g) = (handleExpectOn rb s).withCyclicGpio c g := by
  have h : (confirm (s.withCyclicGpio c g)).selfTest = (confirm s).selfTest := rfl
  unfold handleExpectOn
  dsimp only
  rw [h]
  rcases sample_cases true rb (confirm s).selfTest with ⟨t, h, _⟩ | ⟨t, h, _⟩ | ⟨t, h, _⟩ <;> rw [h]
  · rfl
  · exact fail_withCyclicGpio ((confirm s).withSelfTest t) c g _
  · rfl

theorem handlePassed_withCyclicGpio :
    handlePassed (s.withCyclicGpio c g) = (handlePassed s).withCyclicGpio c g := by
  have h : (confirm (s.withCyclicGpio c g)).selfTest = (confirm s).selfTest := rfl
  unfold handlePassed
  dsimp only
  rw [h]
  by_cases hr : (confirm s).selfTest.requestFlag = true
  · rw [if_pos hr, if_pos hr]; rfl
  · rw [if_neg hr, if_neg hr]
    by_cases h0 : (confirm s).selfTest.remainingUntilNextTest - 1 = 0
    · rw [if_pos (by exact h0), if_pos (by exact h0)]
      exact fail_withCyclicGpio
        ((confirm s).withSelfTest
          { (confirm s).selfTest with
            remainingUntilNextTest := (confirm s).selfTest.remainingUntilNextTest - 1 }) c g _
    · rw [if_neg (by exact h0), if_neg (by exact h0)]; rfl

theorem selftestHandler_withCyclicGpio (rb : Bool) :
    selftestHandler rb (s.withCyclicGpio c g) = (selftestHandler rb s).withCyclicGpio c g := by
  have h : (s.withCyclicGpio c g).selfTest.testState = s.selfTest.testState := rfl
  unfold selftestHandler
  rw [h]
  cases s.selfTest.testState
  · exact handleInitial_withCyclicGpio s c g rb
  · exact handleExpectOn_withCyclicGpio s c g rb
  · exact handleExpectOff_withCyclicGpio s c g rb
  · exact handlePassed_withCyclicGpio s c g
  · simp only [forceError_eq]; rfl

theorem watchdogTick_withCyclicGpio :
    watchdogTick (s.withCyclicGpio c g) = (watchdogTick s).withCyclicGpio c g := by
  have h : (s.withCyclicGpio c g).watchdog = s.watchdog := rfl
  rw [watchdogTick_eq, watchdogTick_eq, h]
  cases s.watchdog.state
  · rfl
  · dsimp only
    split
    · rfl
    · simp only [enterError_eq]; rfl
  · rfl

/-- `trigger` (R157) reads and writes nothing but the watchdog triple, the self-test registers, the error store and the
parameters: the cyclic task's registers and the GPIO record pass through. -/
theorem trigger_withCyclicGpio (rb : Bool) :
    trigger rb (s.withCyclicGpio c g) = ((trigger rb s).1, (trigger rb s).2.withCyclicGpio c g) := by
  simp only [trigger, selftestHandler_withCyclicGpio, watchdogTick_withCyclicGpio]
  rfl

end

/-- The state in which step 3 of a tick finds the block: `trigger` of the state before the tick, `high_cycle` toggled, one
read of `IN0`. -/
theorem triggerStep_eq (rb : Bool) :
    triggerStep rb (toggleHighCycle s) =
      ((trigger rb s).1,
        { (trigger rb s).2 with
          cyclic := { s.cyclic with highCycle := !s.cyclic.highCycle }
          gpio := s.gpio ++ [.read (.inp 0)] }) := by
  have h : gpioRead (.inp 0) (toggleHighCycle s) =
      s.withCyclicGpio { s.cyclic with highCycle := !s.cyclic.highCycle } (s.gpio ++ [.read (.inp 0)]) := rfl
  rw [triggerStep, h, trigger_withCyclicGpio, State.withCyclicGpio]

section
variable (rb : Bool) (levels : Vector Bool 4)

theorem trigger_outputs : (trigger rb s).2.outputs = s.outputs := by rw [trigger_guards s rb]
theorem trigger_inputs : (trigger rb s).2.inputs = s.inputs := by rw [trigger_guards s rb]
theorem trigger_receiver : (trigger rb s).2.receiver = s.receiver := by rw [trigger_guards s rb]
theorem trigger_cyclic : (trigger rb s).2.cyclic = s.cyclic := by rw [trigger_guards s rb]
theorem trigger_pins : (trigger rb s).2.pins = s.pins := by rw [trigger_guards s rb]
theorem trigger_burst : (trigger rb s).2.burst = s.burst := by rw [trigger_guards s rb]
theorem trigger_params : (trigger rb s).2.params = s.params := by rw [trigger_guards s rb]
theorem trigger_ret : (trigger rb s).2.ret = s.ret := by rw [trigger_guards s rb]
theorem trigger_pending : (trigger rb s).2.pending = s.pending := by rw [trigger_guards s rb]
theorem trigger_sent : (trigger rb s).2.sent = s.sent := by rw [trigger_guards s rb]
theorem trigger_gpio : (trigger rb s).2.gpio = s.gpio := by rw [trigger_guards s rb]

theorem tick_watchdog : (tick rb levels s).watchdog = (trigger rb s).2.watchdog := by
  simp only [tick, driveLed_watchdog, sampleInputs_watchdog, driveOutputs_watchdog, sequenceLock_watchdog,
    driveWatchdogPin_watchdog, triggerStep_eq]
theorem tick_selfTest : (tick rb levels s).selfTest = (trigger rb s).2.selfTest := by
  simp only [tick, driveLed_selfTest, sampleInputs_selfTest, driveOutputs_selfTest, sequenceLock_selfTest,
    driveWatchdogPin_selfTest, triggerStep_eq]
theorem tick_errors : (tick rb levels s).errors = (trigger rb s).2.errors := by
  simp only [tick, driveLed_errors, sampleInputs_errors, driveOutputs_errors, sequenceLock_errors,
    driveWatchdogPin_errors, triggerStep_eq]
theorem tick_outputs : (tick rb levels s).outputs = s.outputs := by
  simp only [tick, driveLed_outputs, sampleInputs_outputs, driveOutputs_outputs, sequenceLock_outputs,
    driveWatchdogPin_outputs, triggerStep_eq, trigger_outputs]
theorem tick_inputs : (tick rb levels s).inputs = levels := by
  simp only [tick, driveLed_inputs, sampleInputs_inputs]
theorem tick_receiver : (tick rb levels s).receiver = s.receiver := by
  simp only [tick, driveLed_receiver, sampleInputs_receiver, driveOutputs_receiver, sequenceLock_receiver,
    driveWatchdogPin_receiver, triggerStep_eq, trigger_receiver]
theorem tick_burst : (tick rb levels s).burst = s.burst := by
  simp only [tick, driveLed_burst, sampleInputs_burst, driveOutputs_burst, sequenceLock_burst,
    driveWatchdogPin_burst, triggerStep_eq, trigger_burst]
theorem tick_params : (tick rb levels s).params = s.params := by
  simp only [tick, driveLed_params, sampleInputs_params, driveOutputs_params, sequenceLock_params,
    driveWatchdogPin_params, triggerStep_eq, trigger_params]
theorem tick_ret : (tick rb levels s).ret = s.ret := by
  simp only [tick, driveLed_ret, sampleInputs_ret, driveOutputs_ret, sequenceLock_ret,
    driveWatchdogPin_ret, triggerStep_eq, trigger_ret]
theorem tick_pending : (tick rb levels s).pending = s.pending := by
  simp only [tick, driveLed_pending, sampleInputs_pending, driveOutputs_pending, sequenceLock_pending,
    driveWatchdogPin_pending, triggerStep_eq, trigger_pending]
theorem tick_sent : (tick rb levels s).sent = s.sent := by
  simp only [tick, driveLed_sent, sampleInputs_sent, driveOutputs_sent, sequenceLock_sent,
    driveWatchdogPin_sent, triggerStep_eq, trigger_sent]
theorem tick_highCycle : (tick rb levels s).cyclic.highCycle = !s.cyclic.highCycle := by
  simp only [tick, driveLed_highCycle, sampleInputs_cyclic, driveOutputs_cyclic, sequenceLock_highCycle,
    driveWatchdogPin_cyclic, triggerStep_eq]
theorem tick_wdPin : (tick rb levels s).pins.wdPin = ((trigger rb s).1 && !s.cyclic.highCycle) := by
  simp only [tick, driveLed_wdPin, sampleInputs_pins, driveOutputs_pins, sequenceLock_wdPin,
    driveWatchdogPin_pins, triggerStep_eq]
end

/-- The edges of phase B (R213): so many pairs of writes, `WD` LOW after them if there is one, nothing else. -/
theorem edgePairs_eq (n : Nat) :
    edgePairs n s =
      { s with
        pins := if n = 0 then s.pins else { s.pins with wdPin := false }
        gpio := s.gpio ++ (List.replicate n [.write .wd true, .write .wd false]).flatten } := by
  induction n generalizing s with
  | zero => simp [edgePairs]
  | succ n ih =>
    rw [edgePairs, ih]
    simp only [gpioWrite_eq, Pins.write_wd, ite_self, if_neg (Nat.succ_ne_zero n), List.append_assoc,
      List.replicate_succ, List.flatten_cons, List.cons_append, List.nil_append]

/-- The frame of a burst: `t` differs from `s` in the burst registers, the level of `WD` and the GPIO record at most. -/
abbrev SameButBurst (s t : State) : Prop :=
  t = { s with burst := t.burst, pins := { s.pins with wdPin := t.pins.wdPin }, gpio := t.gpio }

theorem SameButBurst.trans {s t u : State} (h : SameButBurst s t) (h' : SameButBurst t u) : SameButBurst s u := by
  unfold SameButBurst at *
  rw [h', h]

theorem withBurst_sameButBurst (b : Burst) : SameButBurst s (s.withBurst b) := rfl

theorem gpioWrite_wd_sameButBurst (level : Bool) : SameButBurst s (gpioWrite .wd level s) := rfl

theorem gpioRead_sameButBurst (p : Pin) : SameButBurst s (gpioRead p s) := rfl

theorem edgePairs_sameButBurst (n : Nat) : SameButBurst s (edgePairs n s) := by
  unfold SameButBurst
  rw [edgePairs_eq]
  by_cases h0 : n = 0 <;> simp [h0]

theorem pollTimer_sameButBurst (tflag : Bool) : SameButBurst s (pollTimer tflag s) := rfl

theorem burstFinish_sameButBurst (r : BurstResult) : SameButBurst s (burstFinish r s) := rfl

/-- `BURST_ITER` in `PhaseA` (R212) moves the burst registers, `WD` and the GPIO record only. -/
theorem burstIterA_sameButBurst (rb tflag : Bool) : SameButBurst s (burstIterA rb tflag s) := by
  unfold burstIterA
  dsimp only
  generalize h : gpioRead (.inp 0) (gpioWrite .wd false (pollTimer tflag s)) = x
  have hx : SameButBurst s x := by
    rw [← h]
    exact (pollTimer_sameButBurst s tflag).trans ((gpioWrite_wd_sameButBurst _ false).trans (gpioRead_sameButBurst _ _))
  generalize hy : x.withBurst _ = y
  have hsy : SameButBurst s y := by rw [← hy]; exact hx.trans (withBurst_sameButBurst x _)
  by_cases h1 : y.burst.low = Config.burstLowSamples
  · rw [if_pos h1]
    exact hsy.trans (withBurst_sameButBurst _ _)
  · rw [if_neg h1]
    by_cases h2 : y.burst.timeout = 0
    · rw [if_pos h2]
      exact hsy.trans (burstFinish_sameButBurst _ _)
    · rw [if_neg h2]
      exact hsy

/-- `BURST_ITER` in `PhaseB` (R213) moves the burst registers, `WD` and the GPIO record only. -/
theorem burstIterB_sameButBurst (rb tflag : Bool) : SameButBurst s (burstIterB rb tflag s) := by
  unfold burstIterB
  dsimp only
  generalize h : gpioRead (.inp 0) (edgePairs s.params.edgePairs (pollTimer tflag s)) = x
  have hx : SameButBurst s x := by
    rw [← h]
    exact (pollTimer_sameButBurst s tflag).trans ((edgePairs_sameButBurst _ _).trans (gpioRead_sameButBurst _ _))
  generalize hy : x.withBurst _ = y
  have hsy : SameButBurst s y := by rw [← hy]; exact hx.trans (withBurst_sameButBurst x _)
  by_cases h1 : y.burst.high = Config.burstHighSamples
  · rw [if_pos h1]
    exact hsy.trans (burstFinish_sameButBurst _ _)
  · rw [if_neg h1]
    by_cases h2 : y.burst.timeout = 0
    · rw [if_pos h2]
      exact hsy.trans (burstFinish_sameButBurst _ _)
    · rw [if_neg h2]
      exact hsy

/-- One step, once: idle, a reset, a received byte, a tick, the start of a burst, an iteration of its phase. -/
theorem step_cases {t : State} (h : step s = .next t) :
    (s.pending = [] ∧ t = s)
    ∨ (∃ rest, s.pending = .reset :: rest ∧ t = resetBlock (s.withPending rest))
    ∨ (∃ b rest, s.pending = .rx b :: rest ∧ s.burst.phase = .idle ∧ t = receive b (s.withPending rest))
    ∨ (∃ rb levels rest, s.pending = .tick rb levels :: rest ∧ s.burst.phase = .idle
        ∧ t = tick rb levels (s.withPending rest))
    ∨ (∃ rest, s.pending = .burstStart :: rest ∧ s.burst.phase = .idle ∧ t = burstStart (s.withPending rest))
    ∨ (∃ rb tflag rest, s.pending = .burstIter rb tflag :: rest ∧ s.burst.phase = .phaseA
        ∧ t = burstIterA rb tflag (s.withPending rest))
    ∨ (∃ rb tflag rest, s.pending = .burstIter rb tflag :: rest ∧ s.burst.phase = .phaseB
        ∧ t = burstIterB rb tflag (s.withPending rest)) := by
  unfold step at h
  have idle : ∀ rest, burstIdle (s.withPending rest) = true → s.burst.phase = .idle := fun rest hb => by
    simpa [burstIdle] using hb
  cases hp : s.pending with
  | nil => simp only [hp, Host.Outcome.next.injEq] at h; exact .inl ⟨rfl, h.symm⟩
  | cons e rest =>
    simp only [hp] at h
    cases e with
    | reset =>
      simp only [Event.toInstr, exec, execReset, Host.Outcome.next.injEq] at h
      exact .inr (.inl ⟨rest, rfl, h.symm⟩)
    | rx b =>
      simp only [Event.toInstr, exec, execRx] at h
      split at h
      · rename_i hb
        simp only [Host.Outcome.next.injEq] at h
        exact .inr (.inr (.inl ⟨b, rest, rfl, idle rest hb, h.symm⟩))
      · cases h
    | tick rb levels =>
      simp only [Event.toInstr, exec, execTick] at h
      split at h
      · rename_i hb
        simp only [Host.Outcome.next.injEq] at h
        exact .inr (.inr (.inr (.inl ⟨rb, levels, rest, rfl, idle rest hb, h.symm⟩)))
      · cases h
    | burstStart =>
      simp only [Event.toInstr, exec, execBurstStart] at h
      split at h
      · rename_i hb
        simp only [Host.Outcome.next.injEq] at h
        exact .inr (.inr (.inr (.inr (.inl ⟨rest, rfl, idle rest hb, h.symm⟩))))
      · cases h
    | burstIter rb tflag =>
      simp only [Event.toInstr, exec, execBurstIter] at h
      split at h
      · cases h
      · rename_i hb
        simp only [Host.Outcome.next.injEq] at h
        exact .inr (.inr (.inr (.inr (.inr (.inl ⟨rb, tflag, rest, rfl, hb, h.symm⟩)))))
      · rename_i hb
        simp only [Host.Outcome.next.injEq] at h
        exact .inr (.inr (.inr (.inr (.inr (.inr ⟨rb, tflag, rest, rfl, hb, h.symm⟩)))))

end Sys2Proof.Machine

namespace Sys2Proof.Safety

open Sys2Proof.Machine

/-- A run of the host's interface takes its first step. -/
theorem core_run_next (M : Host.Core) (k : Nat) (s t : M.State) (h : M.step s = .next t) :
    M.run (k + 1) s = M.run k t := by
  simp only [Host.Core.run, h]

theorem core_run_fault (M : Host.Core) (k : Nat) (s : M.State) (r : M.Fault) (h : M.step s = .fault r) :
    M.run (k + 1) s = .fault r := by
  simp only [Host.Core.run, h]

theorem core_run_refused (M : Host.Core) (k : Nat) (s : M.State) (r : M.Refusal) (h : M.step s = .refused r) :
    M.run (k + 1) s = .refused r := by
  simp only [Host.Core.run, h]

/-- A run of `k + 1` steps is a step and a run of `k`. -/
theorem run_of_step (k : Nat) (s t : State) (h : step s = .next t) : run (k + 1) s = run k t :=
  core_run_next Sys2Proof.core k s t h

/-- And the other way round: a run that comes to a state took its first step. -/
theorem step_of_run (k : Nat) (s t : State) (h : run (k + 1) s = .next t) :
    ∃ u, step s = .next u ∧ run k u = .next t := by
  cases hs : step s with
  | next u => exact ⟨u, rfl, (run_of_step k s u hs).symm.trans h⟩
  | fault r => exact absurd ((core_run_fault Sys2Proof.core k s r hs).symm.trans h) (by simp)
  | refused r => exact absurd ((core_run_refused Sys2Proof.core k s r hs).symm.trans h) (by simp)

end Sys2Proof.Safety
end

