-- ==== Sys2Proof/Tests/Slice0.lean ====
section
/-! SUPPORT. Tests of the model: ill-formed terms, frames and lines written out from the spec's encodings, small steps whose
expected values are the numbers of 95_test_vectors.md, and a witness for the hypotheses of every obligation that has any. -/

namespace Sys2Proof.Tests

set_option Elab.async false

open Sys2Proof Sys2Proof.Machine Sys2Proof.Safety

/-- The bytes of a text. -/
def txt (x : String) : Bytes := x.toList.map (fun c => BitVec.ofNat 8 c.toNat)

/-- What holds of the next state, if there is one. -/
def after (o : Host.Outcome State Fault Refusal) (p : State → Bool) : Bool :=
  match o with
  | .next t => p t
  | .fault _ => false
  | .refused _ => false

/-- The lines a step sent from a state that had sent none. -/
def sends (o : Host.Outcome State Fault Refusal) (line : Bytes) : Bool := after o (fun t => t.sent == [line])

/-- The reset state with another watchdog triple. -/
def triple (state : WatchdogState) (counter lock : Nat) : State :=
  State.reset.withWatchdog { state := state, counter := counter, resetLockCounter := lock }

/-- Such a state with the LED's counter at `ledTicks`. -/
def blinking (state : WatchdogState) (counter ledTicks : Nat) : State :=
  (triple state counter 30000).withCyclic { State.reset.cyclic with ledTicks := ledTicks }

/-- The reset state in another self-test state. -/
def testing (state : TestState) (stateTicks window remaining : Nat) (request : Bool) : State :=
  State.reset.withSelfTest
    { State.reset.selfTest with
      testState := state, stateTicks := stateTicks, pollingTimeout := window, remainingUntilNextTest := remaining,
      requestFlag := request }

/-- The reset state expecting frame `n`, with the version gate open or not. -/
def expecting (n : Word) (gate : Bool) : State :=
  State.reset.withReceiver { State.reset.receiver with nextExpectedFrameNumber := n, versionGate := gate }

/-- The reset state with a receive cursor and a resync flag. -/
def receiving (index : Nat) (overflow : Bool) : State :=
  State.reset.withReceiver { State.reset.receiver with requestIndex := index, overflow := overflow }

/-- The reset state with a frame in the receive buffer and the terminator 0x00 next. -/
def holding (frame : Bytes) : State :=
  (State.reset.withReceiver (State.reset.receiver.load frame)).withPending [.rx 0x00]

/-- The reset state in a burst. -/
def bursting (phase : BurstPhase) (timeout low high : Nat) : State :=
  State.reset.withBurst
    { phase := phase, timeout := timeout, low := low, high := high, result := .none, timerFlag := false }

/-- Input levels, `IN0` first. -/
def levels (a b c d : Bool) : Vector Bool 4 := #v[a, b, c, d]

/-- No input HIGH. -/
def low4 : Vector Bool 4 := levels false false false false

/-! ### WellFormed: an ill-formed term for each check -/

theorem test_wf_refuses_reqV_number : wellFormed (.reqV (txt "x") (txt "5971")) = false := by decide +kernel
theorem test_wf_refuses_reqV_crc : wellFormed (.reqV (txt "0") (txt "65536")) = false := by decide +kernel
theorem test_wf_refuses_reqV_fits : wellFormed (.reqV (txt "000000000000") (txt "05971")) = false := by decide +kernel
theorem test_wf_refuses_reqW_number : wellFormed (.reqW [] (txt "1") (txt "43612")) = false := by decide +kernel
theorem test_wf_refuses_reqW_value : wellFormed (.reqW (txt "1") (txt "-1") (txt "43612")) = false := by decide +kernel
theorem test_wf_refuses_reqW_crc : wellFormed (.reqW (txt "1") (txt "1") (txt "4361x")) = false := by decide +kernel
theorem test_wf_refuses_reqW_fits : wellFormed (.reqW (txt "00000000001") (txt "1") (txt "43612")) = false := by decide +kernel
theorem test_wf_refuses_reqS_number : wellFormed (.reqS (txt "70000") (txt "0") (txt "1") (txt "55725")) = false := by decide +kernel
theorem test_wf_refuses_reqS_index : wellFormed (.reqS (txt "2") (txt " 0") (txt "1") (txt "55725")) = false := by decide +kernel
theorem test_wf_refuses_reqS_value : wellFormed (.reqS (txt "2") (txt "0") [] (txt "55725")) = false := by decide +kernel
theorem test_wf_refuses_reqS_crc : wellFormed (.reqS (txt "2") (txt "0") (txt "1") []) = false := by decide +kernel
theorem test_wf_refuses_reqS_fits : wellFormed (.reqS (txt "00002") (txt "0000") (txt "1") (txt "55725")) = false := by decide +kernel
theorem test_wf_refuses_reqR_number : wellFormed (.reqR (txt "+3") (txt "0") (txt "54661")) = false := by decide +kernel
theorem test_wf_refuses_reqR_index : wellFormed (.reqR (txt "3") (txt "a") (txt "54661")) = false := by decide +kernel
theorem test_wf_refuses_reqR_crc : wellFormed (.reqR (txt "3") (txt "0") (txt "54661 ")) = false := by decide +kernel
theorem test_wf_refuses_reqR_fits : wellFormed (.reqR (txt "00000000003") (txt "0") (txt "54661")) = false := by decide +kernel
theorem test_wf_refuses_reqD_number : wellFormed (.reqD [] (txt "50078")) = false := by decide +kernel
theorem test_wf_refuses_reqD_crc : wellFormed (.reqD (txt "4") [0xE9]) = false := by decide +kernel
theorem test_wf_refuses_reqD_fits : wellFormed (.reqD (txt "0000000000004") (txt "50078")) = false := by decide +kernel
theorem test_wf_refuses_reqT_number : wellFormed (.reqT (txt ";") (txt "7573")) = false := by decide +kernel
theorem test_wf_refuses_reqT_crc : wellFormed (.reqT (txt "2") [0x0A]) = false := by decide +kernel
theorem test_wf_refuses_reqT_fits : wellFormed (.reqT (txt "0000000000002") (txt "07573")) = false := by decide +kernel
theorem test_wf_refuses_ackV_text : wellFormed (.ackV (txt "1;0")) = false := by decide +kernel
theorem test_wf_refuses_ackV_length : wellFormed (.ackV (List.replicate 45 0x31)) = false := by decide +kernel
theorem test_wf_refuses_ackS_index : wellFormed (.ackS 7 false true) = false := by decide +kernel
theorem test_wf_refuses_ackR_index : wellFormed (.ackR 4 false) = false := by decide +kernel
theorem test_wf_refuses_nackLine_length : wellFormed (.nackLine 1 (List.replicate 21 0x41)) = false := by decide +kernel
theorem test_wf_refuses_nackLine_text : wellFormed (.nackLine 1 [0x0D]) = false := by decide +kernel
theorem test_wf_refuses_setError : wellFormed (.setError 5) = false := by decide +kernel
theorem test_wf_refuses_watchdogSet : wellFormed (.watchdogSet 2) = false := by decide +kernel
theorem test_wf_refuses_enterError : wellFormed (.enterError (some 0x1003)) = false := by decide +kernel
theorem test_wf_refuses_fail : wellFormed (.fail 0) = false := by decide +kernel
theorem test_wf_refuses_handleFrame_length : wellFormed (.handleFrame (List.replicate 21 0x41)) = false := by decide +kernel
theorem test_wf_refuses_handleFrame_terminator : wellFormed (.handleFrame [0x0A]) = false := by decide +kernel
theorem test_wf_refuses_parseU16_separator : wellFormed (.parseU16 (txt "1;")) = false := by decide +kernel
theorem test_wf_refuses_parseU16_terminator : wellFormed (.parseU16 [0x00]) = false := by decide +kernel
theorem test_wf_refuses_ack_empty : wellFormed (.ack []) = false := by decide +kernel
theorem test_wf_refuses_ack_open : wellFormed (.ack (txt "W;0")) = false := by decide +kernel
theorem test_wf_refuses_nack_length : wellFormed (.nack 1 (List.replicate 21 0x41)) = false := by decide +kernel
theorem test_wf_refuses_nack_terminator : wellFormed (.nack 1 [0x00]) = false := by decide +kernel
theorem test_wf_refuses_quoted_length : wellFormed (.quoted (List.replicate 21 0x41)) = false := by decide +kernel
theorem test_wf_refuses_quoted_terminator : wellFormed (.quoted [0x0A]) = false := by decide +kernel

theorem test_wf_accepts : wellFormed (.reqS (txt "2") (txt "0") (txt "1") (txt "55725")) = true := by decide +kernel

/-! ### Decoding: frames and lines written out from 30_encoding.md (numbers of 95_test_vectors.md sections 1, 2 and 5.4) -/

/-- `0;V;5971;` (section 1). -/
theorem test_decode_v :
    decode [0x30, 0x3B, 0x56, 0x3B, 0x35, 0x39, 0x37, 0x31, 0x3B] =
      .ok (.reqV [0x30] [0x35, 0x39, 0x37, 0x31]) := by decide +kernel
/-- `1;W;1;43612;` (section 1). -/
theorem test_decode_w :
    decode [0x31, 0x3B, 0x57, 0x3B, 0x31, 0x3B, 0x34, 0x33, 0x36, 0x31, 0x32, 0x3B] =
      .ok (.reqW [0x31] [0x31] [0x34, 0x33, 0x36, 0x31, 0x32]) := by decide +kernel
/-- `2;S;0;1;55725;` (section 2, scenario 3). -/
theorem test_decode_s :
    decode [0x32, 0x3B, 0x53, 0x3B, 0x30, 0x3B, 0x31, 0x3B, 0x35, 0x35, 0x37, 0x32, 0x35, 0x3B] =
      .ok (.reqS [0x32] [0x30] [0x31] [0x35, 0x35, 0x37, 0x32, 0x35]) := by decide +kernel
/-- `3;R;0;54661;` (section 2, scenario 5). -/
theorem test_decode_r :
    decode [0x33, 0x3B, 0x52, 0x3B, 0x30, 0x3B, 0x35, 0x34, 0x36, 0x36, 0x31, 0x3B] =
      .ok (.reqR [0x33] [0x30] [0x35, 0x34, 0x36, 0x36, 0x31]) := by decide +kernel
/-- `4;D;50078;` (section 2). -/
theorem test_decode_d :
    decode [0x34, 0x3B, 0x44, 0x3B, 0x35, 0x30, 0x30, 0x37, 0x38, 0x3B] =
      .ok (.reqD [0x34] [0x35, 0x30, 0x30, 0x37, 0x38]) := by decide +kernel
/-- `2;T;7573;` (section 5.4). -/
theorem test_decode_t :
    decode [0x32, 0x3B, 0x54, 0x3B, 0x37, 0x35, 0x37, 0x33, 0x3B] =
      .ok (.reqT [0x32] [0x37, 0x35, 0x37, 0x33]) := by decide +kernel
/-- `0;V;1.0;32526;` and the line end (section 2, scenario 1). -/
theorem test_line_ackV :
    decodeLine [0x30, 0x3B, 0x56, 0x3B, 0x31, 0x2E, 0x30, 0x3B, 0x33, 0x32, 0x35, 0x32, 0x36, 0x3B, 0x0A] =
      some (0, .ackV [0x31, 0x2E, 0x30]) := by decide +kernel
/-- `1;W;0;1;1;6417;` and the line end (scenario 2). -/
theorem test_line_ackW :
    decodeLine [0x31, 0x3B, 0x57, 0x3B, 0x30, 0x3B, 0x31, 0x3B, 0x31, 0x3B, 0x36, 0x34, 0x31, 0x37, 0x3B, 0x0A] =
      some (1, .ackW false true true) := by decide +kernel
/-- `2;S;0;0;1;26397;` and the line end (scenario 3). -/
theorem test_line_ackS :
    decodeLine [0x32, 0x3B, 0x53, 0x3B, 0x30, 0x3B, 0x30, 0x3B, 0x31, 0x3B, 0x32, 0x36, 0x33, 0x39, 0x37, 0x3B, 0x0A] =
      some (2, .ackS 0 false true) := by decide +kernel
/-- `3;R;0;0;17889;` and the line end (scenario 5). -/
theorem test_line_ackR :
    decodeLine [0x33, 0x3B, 0x52, 0x3B, 0x30, 0x3B, 0x30, 0x3B, 0x31, 0x37, 0x38, 0x38, 0x39, 0x3B, 0x0A] =
      some (3, .ackR 0 false) := by decide +kernel
/-- `4;D;1;4097;0;3190;` and the line end (after scenario 6). -/
theorem test_line_ackD :
    decodeLine [0x34, 0x3B, 0x44, 0x3B, 0x31, 0x3B, 0x34, 0x30, 0x39, 0x37, 0x3B, 0x30, 0x3B, 0x33, 0x31, 0x39, 0x30, 0x3B, 0x0A] =
      some (4, .ackD 1 4097 0) := by decide +kernel
/-- `2;T;1;33772;` and the line end (section 5.4). -/
theorem test_line_ackT :
    decodeLine [0x32, 0x3B, 0x54, 0x3B, 0x31, 0x3B, 0x33, 0x33, 0x37, 0x37, 0x32, 0x3B, 0x0A] =
      some (2, .ackT true) := by decide +kernel
/-- `3;E;6;[3;S;7;1;3891;];55435;` and the line end (scenario 4; the quote holds separators). -/
theorem test_line_nack :
    decodeLine [0x33, 0x3B, 0x45, 0x3B, 0x36, 0x3B, 0x5B, 0x33, 0x3B, 0x53, 0x3B, 0x37, 0x3B, 0x31, 0x3B, 0x33, 0x38, 0x39, 0x31, 0x3B, 0x5D, 0x3B, 0x35, 0x35, 0x34, 0x33, 0x35, 0x3B, 0x0A] =
      some (3, .nackLine 6 [0x33, 0x3B, 0x53, 0x3B, 0x37, 0x3B, 0x31, 0x3B, 0x33, 0x38, 0x39, 0x31, 0x3B]) := by decide +kernel
/-- `0;E;8;33720;` and the line end (section 6.1). -/
theorem test_line_overflow :
    decodeLine [0x30, 0x3B, 0x45, 0x3B, 0x38, 0x3B, 0x33, 0x33, 0x37, 0x32, 0x30, 0x3B, 0x0A] =
      some (0, .nackOverflow) := by decide +kernel

/-- Section 6.2: no final `;`, two tokens, an empty number, 65536. -/
theorem test_decode_malformed :
    [txt "0;V;5971", txt "0;V;", txt ";V;5971;", txt "65536;V;1;"].map decode =
      List.replicate 4 (.error .malformed) := by decide +kernel
/-- Section 6.3: a lower-case letter, two letters, no letter, the response letter. -/
theorem test_decode_unknown :
    [txt "0;v;13408;", txt "0;VV;51724;", txt "0;;40248;", txt "0;E;43178;"].map decode =
      List.replicate 4 (.error .unknownCommand) := by decide +kernel
/-- Section 6.2: payload counts that are not the command's. -/
theorem test_decode_arity :
    [txt "0;V;1;45772;", txt "0;S;1;56475;", txt "0;S;1;1;1;10179;"].map decode =
      List.replicate 3 (.error .wrongArity) := by decide +kernel
/-- A line whose CRC is not that of its bytes is no response. -/
theorem test_line_wrong_crc : decodeLine (txt "0;E;8;33721;" ++ [0x0A]) = none := by decide +kernel
/-- The table's six command bytes, and a byte it does not have. -/
theorem test_tableWords :
    ([0x56, 0x57, 0x53, 0x52, 0x44, 0x54, 0x58].map (fun w => (decodeTableWord 8 w).isSome)) =
      [true, true, true, true, true, true, false] := by decide +kernel
theorem test_tableWord_v : decodeTableWord 8 0x56 = some (.reqV (txt "0") (txt "5971")) := by decide +kernel
/-- The frame that stands for the word of `V` is what the very next step runs: scenario 1's line goes out. -/
theorem test_withFetchWord :
    sends (step (State.reset.withFetchWord 8 0x56)) (txt "0;V;1.0;32526;" ++ [0x0A]) = true := by decide +kernel

/-! ### Requests and responses (95_test_vectors.md section 2) -/

theorem test_reqV :
    after (exec (.reqV (txt "0") (txt "5971")) State.reset) (fun t =>
      t.sent == [txt "0;V;1.0;32526;" ++ [0x0A]] && t.receiver.versionGate
        && t.receiver.nextExpectedFrameNumber == 1) = true := by decide +kernel
theorem test_reqW :
    after (exec (.reqW (txt "1") (txt "1") (txt "43612")) (expecting 1 true)) (fun t =>
      t.sent == [txt "1;W;0;1;1;6417;" ++ [0x0A]] && t.watchdog.counter == 60000
        && t.watchdog.resetLockCounter == 30000) = true := by decide +kernel
/-- Section 7: `W` behind a closed gate is refused with code 5. -/
theorem test_reqW_gate :
    after (exec (.reqW (txt "1") (txt "1") (txt "43612")) (expecting 1 false)) (fun t =>
      t.watchdog.state == .init && t.receiver.nextExpectedFrameNumber == 1
        && (t.sent.map (fun l => l.take 5)) == [txt "1;E;5"]) = true := by decide +kernel
theorem test_reqS :
    after (exec (.reqS (txt "2") (txt "0") (txt "1") (txt "55725")) (expecting 2 true)) (fun t =>
      t.sent == [txt "2;S;0;0;1;26397;" ++ [0x0A]] && t.outputs == #v[true, false, false, false, false, false, false])
      = true := by decide +kernel
theorem test_reqS_index7 :
    sends (exec (.reqS (txt "3") (txt "7") (txt "1") (txt "3891")) (expecting 3 true))
      (txt "3;E;6;[3;S;7;1;3891;];55435;" ++ [0x0A]) = true := by decide +kernel
theorem test_reqR :
    sends (exec (.reqR (txt "3") (txt "0") (txt "54661")) (expecting 3 true)) (txt "3;R;0;0;17889;" ++ [0x0A])
      = true := by decide +kernel
theorem test_reqR_frameNumber :
    sends (exec (.reqR (txt "5") (txt "0") (txt "52607")) (expecting 4 true))
      (txt "4;E;4;[5;R;0;52607;];41368;" ++ [0x0A]) = true := by decide +kernel
theorem test_reqD :
    after (exec (.reqD (txt "4") (txt "50078"))
        ((expecting 4 true).withErrors { errorNumber := 0x1001, diagnoses := 1, executedTests := 0 })) (fun t =>
      t.sent == [txt "4;D;1;4097;0;3190;" ++ [0x0A]] && t.errors.errorNumber == 0 && t.errors.diagnoses == 0)
      = true := by decide +kernel
/-- Section 5.5: `T` in `Initial` is answered 0 and sets nothing. -/
theorem test_reqT :
    after (exec (.reqT (txt "0") (txt "9443")) State.reset) (fun t =>
      t.sent == [txt "0;T;0;37474;" ++ [0x0A]] && t.selfTest.requestFlag == false) = true := by decide +kernel
theorem test_reqT_passed :
    after (exec (.reqT (txt "0") (txt "9443")) (testing .passed 5 10000 9 false)) (fun t =>
      t.sent == [txt "0;T;1;35770;" ++ [0x0A]] && t.selfTest.requestFlag) = true := by decide +kernel
theorem test_ackV :
    sends (exec (.ackV (txt "1.0")) State.reset) (txt "0;V;1.0;32526;" ++ [0x0A]) = true := by decide +kernel
theorem test_ackW :
    sends (exec (.ackW false true true) (expecting 1 true)) (txt "1;W;0;1;1;6417;" ++ [0x0A]) = true := by
  decide +kernel
theorem test_ackS :
    sends (exec (.ackS 0 false true) (expecting 2 true)) (txt "2;S;0;0;1;26397;" ++ [0x0A]) = true := by
  decide +kernel
theorem test_ackR :
    sends (exec (.ackR 0 false) (expecting 3 true)) (txt "3;R;0;0;17889;" ++ [0x0A]) = true := by decide +kernel
theorem test_ackD :
    sends (exec (.ackD 1 4097 0) (expecting 4 true)) (txt "4;D;1;4097;0;3190;" ++ [0x0A]) = true := by decide +kernel
theorem test_ackT :
    sends (exec (.ackT true) (expecting 2 true)) (txt "2;T;1;33772;" ++ [0x0A]) = true := by decide +kernel
theorem test_nackLine :
    sends (exec (.nackLine 6 (txt "3;S;7;1;3891;")) (expecting 3 true))
      (txt "3;E;6;[3;S;7;1;3891;];55435;" ++ [0x0A]) = true := by decide +kernel
theorem test_nackOverflow :
    after (exec .nackOverflow (receiving 20 true)) (fun t =>
      t.sent == [txt "0;E;8;33720;" ++ [0x0A]] && t.receiver.overflow == false && t.receiver.requestIndex == 0
        && t.receiver.nextExpectedFrameNumber == 0) = true := by decide +kernel

/-! ### Events -/

theorem test_reset :
    after (exec .reset (triple .error 0 12)) (fun t => t.watchdog.state == .init && t.errors.diagnoses == 1
      && t.watchdog.resetLockCounter == 0) = true := by decide +kernel
/-- Section 6.1: an empty frame, and a terminator that ends resync. -/
theorem test_rx_empty :
    sends (exec (.rx 0x00) State.reset) (txt "0;E;1;[];15126;" ++ [0x0A]) = true := by decide +kernel
theorem test_rx_full :
    after (exec (.rx 0x41) (receiving 20 false)) (fun t => t.receiver.overflow && t.receiver.requestIndex == 20
      && t.sent == []) = true := by decide +kernel
/-- Section 5.2, tick 1 after `W;1`: the counter moves, `LOCK` is driven HIGH. -/
theorem test_tick_lock :
    after (exec (.tick false low4) (triple .ok 60000 30000)) (fun t =>
      t.watchdog.counter == 59999 && t.pins.lockPin == .drivenHigh && t.cyclic.lockPinLocked && t.pins.wdPin == false)
      = true := by decide +kernel
/-- Section 5.4, tick 7: approved at the HIGH half of the cycle, the relay pin is HIGH. -/
theorem test_tick_relay :
    after (exec (.tick true low4) ((testing .passed 5 10000 9 false).withWatchdog (triple .ok 59999 30000).watchdog))
      (fun t => t.pins.wdPin && t.cyclic.highCycle && t.watchdog.counter == 59998) = true := by decide +kernel
theorem test_burstStart :
    after (exec .burstStart State.reset) (fun t => t.burst.phase == .phaseA && t.burst.timeout == 10000) = true := by
  decide +kernel
/-- Section 9: the 5th LOW sample ends phase A. -/
theorem test_burstIter_A :
    after (exec (.burstIter false false) (bursting .phaseA 7 4 0)) (fun t =>
      t.burst.phase == .phaseB && t.burst.low == 5 && t.burst.timeout == 7) = true := by decide +kernel
/-- Section 9: the 500th HIGH sample passes, even on the last timer event. -/
theorem test_burstIter_B :
    after (exec (.burstIter true true) (bursting .phaseB 1 5 499)) (fun t =>
      t.burst.phase == .idle && t.burst.result == .passed && t.pins.wdPin == false) = true := by decide +kernel

/-! ### Operations (95_test_vectors.md sections 3, 4, 5.1, 5.3, 5.5) -/

theorem test_crcStep :
    after (exec (.crcStep 0x3B 0x3E04) State.reset) (fun t => t.ret == .word 0xC94A) = true := by decide +kernel
theorem test_crcWhole :
    after (exec (.crcWhole (txt "123456789")) State.reset) (fun t => t.ret == .word 36974) = true := by decide +kernel
theorem test_crcWhole_frame : crcWhole (txt "65535;S;6;1;") = 28876 := by decide +kernel
theorem test_setError :
    after (exec (.setError 0x1001) State.reset) (fun t => t.errors.errorNumber == 0x1001) = true := by decide +kernel
theorem test_setError_first_wins :
    after (exec (.setError 2) (State.reset.withErrors { errorNumber := 0x1001, diagnoses := 1, executedTests := 0 }))
      (fun t => t.errors.errorNumber == 0x1001) = true := by decide +kernel
theorem test_setDiagnoses :
    after (exec (.setDiagnoses 0x0010) State.reset) (fun t => t.errors.diagnoses == 0x0011) = true := by decide +kernel
theorem test_setExecutedTest :
    after (exec (.setExecutedTest 2) (State.reset.withErrors { errorNumber := 0, diagnoses := 1, executedTests := 1 }))
      (fun t => t.errors.executedTests == 3) = true := by decide +kernel
theorem test_getError :
    after (exec .getError (State.reset.withErrors { errorNumber := 0x1001, diagnoses := 1, executedTests := 3 }))
      (fun t => t.ret == .word 0x1001 && t.errors == { errorNumber := 0, diagnoses := 1, executedTests := 3 })
      = true := by decide +kernel
theorem test_getDiagnoses :
    after (exec .getDiagnoses State.reset) (fun t => t.ret == .word 1 && t.errors.diagnoses == 0) = true := by
  decide +kernel
theorem test_getExecutedTests :
    after (exec .getExecutedTests (State.reset.withErrors { errorNumber := 5, diagnoses := 1, executedTests := 3 }))
      (fun t => t.ret == .word 3 && t.errors == { errorNumber := 5, diagnoses := 1, executedTests := 0 })
      = true := by decide +kernel
theorem test_watchdogSet :
    after (exec (.watchdogSet 1) (triple .ok 17 30000)) (fun t => t.watchdog == (triple .ok 60000 30000).watchdog)
      = true := by decide +kernel
theorem test_watchdogSet_clear :
    after (exec (.watchdogSet 0) (triple .ok 17 30000)) (fun t =>
      t.watchdog == (triple .error 0 29999).watchdog && t.errors.errorNumber == 0x1001) = true := by decide +kernel
theorem test_enterError :
    after (exec (.enterError (some 0x1000)) (triple .ok 1 30000)) (fun t =>
      t.watchdog == (triple .error 0 29999).watchdog && t.errors.errorNumber == 0x1000) = true := by decide +kernel
theorem test_watchdogTick :
    after (exec .watchdogTick (triple .ok 1 30000)) (fun t =>
      t.watchdog == (triple .error 0 29999).watchdog && t.errors.errorNumber == 0x1000) = true := by decide +kernel
theorem test_watchdogTick_grace :
    after (exec .watchdogTick (triple .error 0 1)) (fun t => t.watchdog == (triple .error 0 0).watchdog) = true := by
  decide +kernel
theorem test_forceError :
    after (exec .forceError (triple .ok 500 30000)) (fun t =>
      t.watchdog == (triple .error 0 29999).watchdog && t.errors.errorNumber == 0) = true := by decide +kernel
theorem test_forceError_in_error :
    after (exec .forceError (triple .error 0 12)) (fun t => t.watchdog == (triple .error 0 12).watchdog) = true := by
  decide +kernel
/-- Section 5.4, tick 14: the watchdog runs and the test does not confirm. -/
theorem test_trigger :
    after (exec (.trigger false)
        ((testing .repeatedExpectOff 5 10000 9 false).withWatchdog (triple .ok 59992 30000).watchdog)) (fun t =>
      t.ret == .bool false && t.watchdog.counter == 59991 && t.selfTest.stateTicks == 4) = true := by decide +kernel
theorem test_running :
    after (exec .running (triple .ok 1 30000)) (fun t => t.ret == .bool true) = true := by decide +kernel
theorem test_lockRequired :
    after (exec .lockRequired (triple .error 0 1)) (fun t => t.ret == .bool true) = true := by decide +kernel
/-- Section 5.3, the row HIGH x9996, LOW x4: tick 10000 leaves `state_ticks` 1 and `polling_timeout` 0 in `Failed`. -/
theorem test_trigger_timeout :
    after (exec (.trigger false) (testing .initial 2 1 0 false)) (fun t =>
      t.selfTest == (testing .failed 1 0 0 false).selfTest && t.watchdog == (triple .error 0 0).watchdog
        && t.errors.errorNumber == 1) = true := by decide +kernel
/-- Section 5.3, tick 5 with the readback LOW. -/
theorem test_selftestHandler :
    after (exec (.selftestHandler false) (testing .initial 1 9996 0 false)) (fun t =>
      t.selfTest.testState == .passed && t.selfTest.remainingUntilNextTest == 360000000
        && t.errors.executedTests == 1) = true := by decide +kernel
/-- Section 5.5: the last tick of the interval without a request. -/
theorem test_selftestHandler_missed :
    after (exec (.selftestHandler false) (testing .passed 5 10000 1 false)) (fun t =>
      t.selfTest.testState == .failed && t.errors.errorNumber == 4
        && t.watchdog == (triple .error 0 0).watchdog) = true := by decide +kernel
theorem test_sample_success :
    after (exec (.sample false false) (testing .initial 1 1 0 false)) (fun t => t.ret == .sample .success) = true := by
  decide +kernel
theorem test_sample_timeout :
    after (exec (.sample false false) (testing .initial 2 1 0 false)) (fun t =>
      t.ret == .sample .timeout && t.selfTest.stateTicks == 1 && t.selfTest.pollingTimeout == 0) = true := by
  decide +kernel
theorem test_fail :
    after (exec (.fail 1) State.reset) (fun t =>
      t.selfTest.testState == .failed && t.errors.errorNumber == 1 && t.watchdog == (triple .error 0 0).watchdog)
      = true := by decide +kernel
theorem test_requestSelfTest :
    after (exec .requestSelfTest State.reset) (fun t => t.ret == .bool false && t.selfTest.requestFlag == false)
      = true := by decide +kernel
theorem test_enter :
    after (exec (.enter .passed) (testing .initial 1 7 0 false)) (fun t =>
      t.selfTest.testState == .passed && t.selfTest.stateTicks == 5 && t.selfTest.pollingTimeout == 10000)
      = true := by decide +kernel
theorem test_handleFrame :
    sends (exec (.handleFrame (txt "0;V;5971;")) State.reset) (txt "0;V;1.0;32526;" ++ [0x0A]) = true := by
  decide +kernel
/-- Section 6.2: a byte that is not printable spoils the CRC token and is not quoted. -/
theorem test_handleFrame_quote :
    sends (exec (.handleFrame (txt "0;V;" ++ [0xE9] ++ txt "5971;")) State.reset)
      (txt "0;E;1;[0;V;5971;];64700;" ++ [0x0A]) = true := by decide +kernel
theorem test_parseU16 :
    after (exec (.parseU16 (txt "65535")) State.reset) (fun t => t.ret == .parsed (some 65535)) = true := by
  decide +kernel
theorem test_parseU16_reject :
    after (exec (.parseU16 (txt "65536")) State.reset) (fun t => t.ret == .parsed none) = true := by decide +kernel
theorem test_dec :
    after (exec (.dec 12345) State.reset) (fun t => t.ret == .bytes (txt "12345")) = true := by decide +kernel
theorem test_ack :
    after (exec (.ack (txt "W;0;1;1;")) (expecting 1 true)) (fun t =>
      t.sent == [txt "1;W;0;1;1;6417;" ++ [0x0A]] && t.receiver.nextExpectedFrameNumber == 2) = true := by
  decide +kernel
theorem test_nack :
    sends (exec (.nack 6 (txt "3;S;7;1;3891;")) (expecting 3 true))
      (txt "3;E;6;[3;S;7;1;3891;];55435;" ++ [0x0A]) = true := by decide +kernel
theorem test_quoted :
    after (exec (.quoted [0x1F, 0x20, 0x7E, 0x7F]) State.reset) (fun t => t.ret == .bytes [0x20, 0x7E]) = true := by
  decide +kernel

/-! ### Stops: each of the four events the environment does not raise -/

theorem test_stop_burstStart : exec .burstStart (bursting .phaseA 7 4 0) = .fault .burstStartWhileRunning := rfl
theorem test_stop_burstIter : exec (.burstIter true true) State.reset = .fault .burstIterWhileIdle := rfl
theorem test_stop_rx : exec (.rx 0x41) (bursting .phaseB 7 5 0) = .fault .rxDuringBurst := rfl
theorem test_stop_tick : exec (.tick true low4) (bursting .phaseB 7 5 0) = .fault .tickDuringBurst := rfl

/-! ### Witnesses: the hypotheses of each obligation, met together, clause by clause -/

theorem witness_crcSeparates : (0x30 : Byte) ≠ 0x31 := by decide
theorem witness_setters :
    State.reset.errors.errorNumber = 0
      ∧ (State.reset.withErrors { errorNumber := 1, diagnoses := 0, executedTests := 0 }).errors.errorNumber ≠ 0 := by
  decide
theorem witness_getters :
    (∃ t, exec .getError State.reset = .next t) ∧ (∃ t, exec .getExecutedTests State.reset = .next t)
      ∧ ∃ t, exec .getDiagnoses State.reset = .next t := ⟨⟨_, rfl⟩, ⟨_, rfl⟩, ⟨_, rfl⟩⟩
theorem witness_watchdogSet :
    (State.reset.watchdog.state = .init ∧ (1 : Word) ≠ 0) ∧ ((triple .ok 1 30000).watchdog.state = .ok ∧ (0 : Word) = 0)
      ∧ (triple .error 0 12).watchdog.state = .error := by decide
theorem witness_faultEntry :
    State.reset.watchdog.state ≠ .error ∧ (triple .error 0 12).watchdog.state = .error := by decide
theorem witness_watchdogTick :
    ((triple .ok 2 30000).watchdog.state = .ok ∧ 1 < (triple .ok 2 30000).watchdog.counter)
      ∧ ((triple .ok 1 30000).watchdog.state = .ok ∧ (triple .ok 1 30000).watchdog.counter = 1)
      ∧ ((triple .ok 0 30000).watchdog.state = .ok ∧ (triple .ok 0 30000).watchdog.counter = 0)
      ∧ (triple .error 0 1).watchdog.state = .error ∧ State.reset.watchdog.state = .init := by decide
theorem witness_sample :
    (true = true ∧ (testing .initial 1 1 0 false).selfTest.stateTicks ≤ 1)
      ∧ (true = true ∧ 1 < (testing .initial 2 1 0 false).selfTest.stateTicks) ∧ true ≠ false := by decide
theorem witness_expectLow_initial :
    State.reset.selfTest.testState = .initial ∧ (1 : Word) = State.reset.params.testInitial ∧ (1 : Word) = 0x0001 := by
  decide
theorem witness_expectLow_off :
    (testing .repeatedExpectOff 1 1 0 false).selfTest.testState = .repeatedExpectOff
      ∧ (2 : Word) = (testing .repeatedExpectOff 1 1 0 false).params.testRepeated ∧ (3 : Word) = 0x0003 := by decide
/-- The three answers of the sample, at the boundary of both counters. -/
theorem witness_expectLow_answers :
    (sample false false (testing .initial 1 1 0 false).selfTest).1 = .success
      ∧ (sample false true (testing .initial 1 1 0 false).selfTest).1 = .timeout
      ∧ (sample false true (testing .initial 1 2 0 false).selfTest).1 = .pending := by decide
theorem witness_passed :
    (testing .passed 5 10000 1 true).selfTest.testState = .passed
      ∧ (testing .passed 5 10000 1 true).selfTest.requestFlag = true
      ∧ ((testing .passed 5 10000 2 false).selfTest.testState = .passed
        ∧ (testing .passed 5 10000 2 false).selfTest.requestFlag = false
        ∧ 1 < (testing .passed 5 10000 2 false).selfTest.remainingUntilNextTest)
      ∧ (testing .passed 5 10000 1 false).selfTest.testState = .passed
      ∧ (testing .passed 5 10000 1 false).selfTest.requestFlag = false
      ∧ (testing .passed 5 10000 1 false).selfTest.remainingUntilNextTest = 1 := by decide
theorem witness_expectOn :
    (testing .repeatedExpectOn 1 1 0 false).selfTest.testState = .repeatedExpectOn
      ∧ (sample true true (testing .repeatedExpectOn 1 1 0 false).selfTest).1 = .success
      ∧ (sample true false (testing .repeatedExpectOn 1 1 0 false).selfTest).1 = .timeout
      ∧ (sample true false (testing .repeatedExpectOn 1 2 0 false).selfTest).1 = .pending := by decide
theorem witness_failed :
    (testing .failed 5 0 0 false).selfTest.testState = .failed
      ∧ (∀ rest, ((testing .failed 5 0 0 false).withPending [.tick true low4]).pending ≠ .reset :: rest)
      ∧ ∃ t, step ((testing .failed 5 0 0 false).withPending [.tick true low4]) = .next t :=
  ⟨rfl, fun _ => (nomatch ·), ⟨_, rfl⟩⟩
theorem witness_requestSelfTest :
    (testing .passed 5 10000 9 false).selfTest.testState = .passed ∧ State.reset.selfTest.testState ≠ .passed := by
  decide
theorem witness_decodeOfEncode :
    wellFormed (.reqS (txt "65535") (txt "6") (txt "1") (txt "28876")) = true
      ∧ encode (.reqS (txt "65535") (txt "6") (txt "1") (txt "28876")) = some (txt "65535;S;6;1;28876;") := by
  decide +kernel
theorem witness_encodeOfDecode :
    decode (txt "65535;S;6;1;28876;") = .ok (.reqS (txt "65535") (txt "6") (txt "1") (txt "28876"))
      ∧ (txt "65535;S;6;1;28876;").length ≤ 20 := by decide +kernel
theorem witness_decodeLine :
    wellFormed (.nackLine 6 (txt "3;S;7;1;3891;")) = true
      ∧ encodeLine 3 (.nackLine 6 (txt "3;S;7;1;3891;")) = some (txt "3;E;6;[3;S;7;1;3891;];55435;" ++ [0x0A]) := by
  decide +kernel
/-- Both terminators in resync. -/
theorem witness_overflow :
    (receiving 20 true).burst.phase = .idle ∧ (receiving 20 true).receiver.overflow = true
      ∧ ((0x0A : Byte) = 0x0A ∨ (0x0A : Byte) = 0x00) ∧ ((0x00 : Byte) = 0x0A ∨ (0x00 : Byte) = 0x00) := by decide
theorem witness_responses (version : Bytes) (a b c : Bool) (x y z : Word) :
    (Instr.ackT true = .ackV version ∨ Instr.ackT true = .ackW a b c ∨ Instr.ackT true = .ackS x a b
      ∨ Instr.ackT true = .ackR x a ∨ Instr.ackT true = .ackD x y z ∨ Instr.ackT true = .ackT true) := by simp
/-- Frames that fail each check alone: malformed, number, CRC, command, arity. -/
theorem witness_handleFrame_malformed : decode (txt "0;V;") = .error .malformed := by decide +kernel
theorem witness_handleFrame_number :
    ∃ r, tokenise (txt "1;V;3048;") = some r ∧ parseU16 r.fno = some 1 ∧ parseAll r.payload = some []
      ∧ parseU16 r.crc = some 3048 ∧ (1 : Word) ≠ State.reset.receiver.nextExpectedFrameNumber :=
  ⟨{ fno := txt "1", cmd := txt "V", payload := [], crc := txt "3048" }, by decide +kernel⟩
theorem witness_handleFrame_crc :
    ∃ r, tokenise (txt "0;V;5972;") = some r ∧ parseU16 r.fno = some 0 ∧ parseAll r.payload = some []
      ∧ parseU16 r.crc = some 5972 ∧ (0 : Word) = State.reset.receiver.nextExpectedFrameNumber
      ∧ (5972 : Word) ≠ crcWhole (crcCover (txt "0;V;5972;") r.crc) :=
  ⟨{ fno := txt "0", cmd := txt "V", payload := [], crc := txt "5972" }, by decide +kernel⟩
theorem witness_handleFrame_command :
    ∃ r, tokenise (txt "0;v;13408;") = some r ∧ parseU16 r.fno = some 0 ∧ parseAll r.payload = some []
      ∧ parseU16 r.crc = some 13408 ∧ (0 : Word) = State.reset.receiver.nextExpectedFrameNumber
      ∧ (13408 : Word) = crcWhole (crcCover (txt "0;v;13408;") r.crc)
      ∧ decode (txt "0;v;13408;") = .error .unknownCommand :=
  ⟨{ fno := txt "0", cmd := txt "v", payload := [], crc := txt "13408" }, by decide +kernel⟩
theorem witness_handleFrame_arity :
    ∃ r, tokenise (txt "0;V;1;45772;") = some r ∧ parseU16 r.fno = some 0 ∧ parseAll r.payload = some [1]
      ∧ parseU16 r.crc = some 45772 ∧ (0 : Word) = State.reset.receiver.nextExpectedFrameNumber
      ∧ (45772 : Word) = crcWhole (crcCover (txt "0;V;1;45772;") r.crc)
      ∧ decode (txt "0;V;1;45772;") = .error .wrongArity :=
  ⟨{ fno := txt "0", cmd := txt "V", payload := [txt "1"], crc := txt "45772" }, by decide +kernel⟩
theorem witness_handleFrame_runs : decode (txt "0;V;5971;") = .ok (.reqV (txt "0") (txt "5971")) := by decide +kernel
theorem witness_requestV :
    parseU16 (txt "0") = some State.reset.receiver.nextExpectedFrameNumber
      ∧ parseU16 (txt "5971") = some (crcWhole (txt "0" ++ [0x3B, 0x56, 0x3B])) := by decide +kernel
/-- `W` through the gate with 1, behind a closed gate, and with 2. -/
theorem witness_requestW :
    (parseU16 (txt "1") = some (expecting 1 true).receiver.nextExpectedFrameNumber ∧ parseU16 (txt "1") = some 1
      ∧ parseU16 (txt "43612") = some (crcWhole (txt "1" ++ [0x3B, 0x57, 0x3B] ++ txt "1" ++ [0x3B]))
      ∧ (expecting 1 true).receiver.versionGate = true ∧ (1 : Word).toNat ≤ 1)
      ∧ (parseU16 (txt "1") = some (expecting 1 false).receiver.nextExpectedFrameNumber ∧ parseU16 (txt "1") = some 1
        ∧ parseU16 (txt "43612") = some (crcWhole (txt "1" ++ [0x3B, 0x57, 0x3B] ++ txt "1" ++ [0x3B]))
        ∧ (expecting 1 false).receiver.versionGate = false) := by decide +kernel
theorem witness_requestW_value :
    ∃ crc, parseU16 (txt "1") = some (expecting 1 true).receiver.nextExpectedFrameNumber ∧ parseU16 (txt "2") = some 2
      ∧ parseU16 crc = some (crcWhole (txt "1" ++ [0x3B, 0x57, 0x3B] ++ txt "2" ++ [0x3B]))
      ∧ (expecting 1 true).receiver.versionGate = true ∧ 1 < (2 : Word).toNat :=
  ⟨dec (crcWhole (txt "1;W;2;")), by decide +kernel⟩
/-- `S` of slot 6 with 1, of index 7, and of slot 6 with 2. -/
theorem witness_requestS :
    (parseU16 (txt "65535") = some (expecting 65535 true).receiver.nextExpectedFrameNumber
      ∧ parseU16 (txt "6") = some 6 ∧ parseU16 (txt "1") = some 1
      ∧ parseU16 (txt "28876") =
        some (crcWhole (txt "65535" ++ [0x3B, 0x53, 0x3B] ++ txt "6" ++ [0x3B] ++ txt "1" ++ [0x3B]))
      ∧ (6 : Word).toNat < 7 ∧ (1 : Word).toNat ≤ 1)
      ∧ (parseU16 (txt "3") = some (expecting 3 true).receiver.nextExpectedFrameNumber
        ∧ parseU16 (txt "7") = some 7 ∧ parseU16 (txt "1") = some 1
        ∧ parseU16 (txt "3891") =
          some (crcWhole (txt "3" ++ [0x3B, 0x53, 0x3B] ++ txt "7" ++ [0x3B] ++ txt "1" ++ [0x3B]))
        ∧ 7 ≤ (7 : Word).toNat) := by decide +kernel
theorem witness_requestS_value :
    ∃ crc, parseU16 (txt "3") = some (expecting 3 true).receiver.nextExpectedFrameNumber
      ∧ parseU16 (txt "6") = some 6 ∧ parseU16 (txt "2") = some 2
      ∧ parseU16 crc = some (crcWhole (txt "3" ++ [0x3B, 0x53, 0x3B] ++ txt "6" ++ [0x3B] ++ txt "2" ++ [0x3B]))
      ∧ (6 : Word).toNat < 7 ∧ 1 < (2 : Word).toNat :=
  ⟨dec (crcWhole (txt "3;S;6;2;")), by decide +kernel⟩
/-- `R` of slots 0 and 3, and of index 4. -/
theorem witness_requestR :
    parseU16 (txt "3") = some (expecting 3 true).receiver.nextExpectedFrameNumber ∧ parseU16 (txt "0") = some 0
      ∧ parseU16 (txt "54661") = some (crcWhole (txt "3" ++ [0x3B, 0x52, 0x3B] ++ txt "0" ++ [0x3B]))
      ∧ (0 : Word).toNat < 4 := by decide +kernel
theorem witness_requestR_bounds :
    (∃ crc, parseU16 (txt "3") = some (expecting 3 true).receiver.nextExpectedFrameNumber
      ∧ parseU16 (txt "3") = some 3 ∧ (3 : Word).toNat < 4
      ∧ parseU16 crc = some (crcWhole (txt "3" ++ [0x3B, 0x52, 0x3B] ++ txt "3" ++ [0x3B])))
      ∧ ∃ crc, parseU16 (txt "3") = some (expecting 3 true).receiver.nextExpectedFrameNumber
        ∧ parseU16 (txt "4") = some 4 ∧ 4 ≤ (4 : Word).toNat
        ∧ parseU16 crc = some (crcWhole (txt "3" ++ [0x3B, 0x52, 0x3B] ++ txt "4" ++ [0x3B])) :=
  ⟨⟨dec (crcWhole (txt "3;R;3;")), by decide +kernel⟩, ⟨dec (crcWhole (txt "3;R;4;")), by decide +kernel⟩⟩
theorem witness_requestD :
    parseU16 (txt "4") = some (expecting 4 true).receiver.nextExpectedFrameNumber
      ∧ parseU16 (txt "50078") = some (crcWhole (txt "4" ++ [0x3B, 0x44, 0x3B])) := by decide +kernel
theorem witness_requestT :
    parseU16 (txt "0") = some State.reset.receiver.nextExpectedFrameNumber
      ∧ parseU16 (txt "9443") = some (crcWhole (txt "0" ++ [0x3B, 0x54, 0x3B])) := by decide +kernel
/-- A data byte with one place left, at a full buffer, and in resync. -/
theorem witness_dataByte :
    ((receiving 19 false).burst.phase = .idle ∧ (0x41 : Byte) ≠ 0x0A ∧ (0x41 : Byte) ≠ 0x00
      ∧ (receiving 19 false).receiver.overflow = false ∧ (receiving 19 false).receiver.requestIndex < 20)
      ∧ ((receiving 20 false).receiver.overflow = false ∧ (receiving 20 false).receiver.requestIndex = 20)
      ∧ (receiving 20 true).receiver.overflow = true := by decide
/-- The state with scenario 1's frame in the buffer and its terminator next. -/
theorem witness_stepRunsFrame :
    ∃ s : State, s.pending = [.rx 0x0A] ∧ s.burst.phase = .idle ∧ s.receiver.overflow = false
      ∧ decode (s.receiver.buf.toList.take s.receiver.requestIndex) = .ok (.reqV (txt "0") (txt "5971")) :=
  ⟨State.reset.withFetchWord 8 0x56, by decide +kernel⟩
/-- Buffers that hold no request, the other terminator next: empty, an unknown command, a wrong payload count. -/
theorem witness_stepRunsFrame_noRequest :
    ((holding []).pending = [.rx 0x00] ∧ (holding []).burst.phase = .idle ∧ (holding []).receiver.overflow = false
      ∧ ((0x00 : Byte) = 0x0A ∨ (0x00 : Byte) = 0x00))
      ∧ decode ((holding []).receiver.buf.toList.take (holding []).receiver.requestIndex) = .error .malformed
      ∧ decode ((holding (txt "0;v;13408;")).receiver.buf.toList.take (holding (txt "0;v;13408;")).receiver.requestIndex)
        = .error .unknownCommand
      ∧ decode ((holding (txt "0;V;1;45772;")).receiver.buf.toList.take
          (holding (txt "0;V;1;45772;")).receiver.requestIndex) = .error .wrongArity := by decide +kernel
theorem witness_stepRunsEvents :
    State.reset.pending = [] ∧ (State.reset.withPending [.reset]).pending = .reset :: []
      ∧ (State.reset.withPending [.rx 0x41]).pending = .rx 0x41 :: []
      ∧ (State.reset.withPending [.tick true low4]).pending = .tick true low4 :: []
      ∧ (State.reset.withPending [.burstStart]).pending = .burstStart :: []
      ∧ (State.reset.withPending [.burstIter true false]).pending = .burstIter true false :: [] := by decide
theorem witness_excludedEvents : (bursting .phaseA 7 4 0).burst.phase ≠ .idle ∧ State.reset.burst.phase = .idle := by
  decide
/-- For the tick statements: no burst runs at reset, nor in the states of the next witnesses. -/
theorem witness_tick : State.reset.burst.phase = .idle := rfl
/-- The three cases of step 4: a locking edge, an unlocking edge, no edge. -/
theorem witness_tickLock :
    after (exec (.tick false low4) (triple .ok 60000 30000)) (fun t =>
        t.watchdog.resetLockCounter != 0 && (triple .ok 60000 30000).cyclic.lockPinLocked == false) = true
      ∧ after (exec (.tick false low4)
          (((triple .error 0 1).withCyclic { State.reset.cyclic with lockPinLocked := true }).withPins
            { State.reset.pins with lockPin := .drivenHigh, lockPullUp := true })) (fun t =>
        t.watchdog.resetLockCounter == 0) = true
      ∧ after (exec (.tick false low4) State.reset) (fun t =>
        t.watchdog.resetLockCounter == 0 && State.reset.cyclic.lockPinLocked == false) = true := by decide +kernel
/-- The LED's cases: `Init`; `Ok` at 1999 and 1998 ticks; `Error` at 99 and 98. -/
theorem witness_tickLed_init : after (exec (.tick false low4) State.reset) (fun t => t.watchdog.state == .init) = true := by
  decide +kernel
theorem witness_tickLed_ok :
    (after (exec (.tick false low4) (blinking .ok 60000 1999)) (fun t => t.watchdog.state == .ok) = true
      ∧ 2000 ≤ (blinking .ok 60000 1999).cyclic.ledTicks + 1)
      ∧ after (exec (.tick false low4) (blinking .ok 60000 1998)) (fun t => t.watchdog.state == .ok) = true
      ∧ (blinking .ok 60000 1998).cyclic.ledTicks + 1 < 2000 := by decide +kernel
theorem witness_tickLed_error :
    (after (exec (.tick false low4) (blinking .error 0 99)) (fun t => t.watchdog.state == .error) = true
      ∧ 100 ≤ (blinking .error 0 99).cyclic.ledTicks + 1)
      ∧ after (exec (.tick false low4) (blinking .error 0 98)) (fun t => t.watchdog.state == .error) = true
      ∧ (blinking .error 0 98).cyclic.ledTicks + 1 < 100 := by decide +kernel

/-- A machine that has been running: `Ok`, the test passed, `LOCK` driven HIGH. -/
def runningState : State :=
  (((testing .passed 5 10000 9 false).withWatchdog (triple .ok 59999 30000).watchdog).withCyclic
    { State.reset.cyclic with lockPinLocked := true }).withPins
      { State.reset.pins with lockPin := .drivenHigh, lockPullUp := true }

/-- A machine in its grace period's last tick: `Error`, `LOCK` driven HIGH. -/
def graceState : State :=
  (((testing .passed 5 10000 9 false).withWatchdog (triple .error 0 1).watchdog).withCyclic
    { State.reset.cyclic with lockPinLocked := true }).withPins
      { State.reset.pins with lockPin := .drivenHigh, lockPullUp := true }

theorem witness_relay :
    StateInvariant runningState
      ∧ ∃ t, exec (.tick true low4) runningState = .next t ∧ t.pins.wdPin = true :=
  ⟨by decide, ⟨_, rfl, by decide +kernel⟩⟩
theorem witness_received : ∃ t, exec (.rx 0x41) State.reset = .next t := ⟨_, rfl⟩
theorem witness_received_notPassed : State.reset.selfTest.testState ≠ .passed := by decide
theorem witness_burstIter :
    (bursting .phaseA 1 4 0).burst.phase = .phaseA
      ∧ (bursting .phaseB 1 5 499).burst.phase = .phaseB ∧ 1 ≤ (bursting .phaseB 1 5 499).params.edgePairs := by decide
/-- Both invariants at a state that has been running, and a step that keeps them. -/
theorem witness_invariants :
    StateInvariant (runningState.withPending [.tick true low4])
      ∧ RangeInvariant (runningState.withPending [.tick true low4])
      ∧ ∃ t, step (runningState.withPending [.tick true low4]) = .next t :=
  ⟨by decide, by decide, ⟨_, rfl⟩⟩
theorem witness_errorTerminal :
    (graceState.withPending [.rx 0x0A]).watchdog.state = .error
      ∧ (∀ rest, (graceState.withPending [.rx 0x0A]).pending ≠ .reset :: rest)
      ∧ ∃ t, step (graceState.withPending [.rx 0x0A]) = .next t :=
  ⟨rfl, fun _ => (nomatch ·), ⟨_, rfl⟩⟩
theorem witness_oneLine : ∃ t, run 1 (State.reset.withPending [.rx 0x0A]) = .next t := ⟨_, rfl⟩
theorem witness_untriggered :
    ((triple .ok 1 30000).withPending (tickEvents [(true, low4)])).watchdog.state = .ok
      ∧ ((triple .ok 1 30000).withPending (tickEvents [(true, low4)])).watchdog.counter = [(true, low4)].length
      ∧ 0 < [(true, low4)].length
      ∧ ((triple .ok 1 30000).withPending (tickEvents [(true, low4)])).burst.phase = .idle
      ∧ ((triple .ok 1 30000).withPending (tickEvents [(true, low4)])).pending = tickEvents [(true, low4)] ++ [] := by
  decide
theorem witness_grace :
    StateInvariant (graceState.withPending (tickEvents [(true, low4)]))
      ∧ RangeInvariant (graceState.withPending (tickEvents [(true, low4)]))
      ∧ (graceState.withPending (tickEvents [(true, low4)])).watchdog.state = .error
      ∧ (graceState.withPending (tickEvents [(true, low4)])).watchdog.resetLockCounter = [(true, low4)].length
      ∧ 0 < [(true, low4)].length
      ∧ (graceState.withPending (tickEvents [(true, low4)])).burst.phase = .idle
      ∧ (graceState.withPending (tickEvents [(true, low4)])).pending = tickEvents [(true, low4)] ++ [] := by decide
theorem witness_initialTest :
    ((testing .initial 5 1 0 false).withPending (tickEvents [(true, low4)])).selfTest.testState = .initial
      ∧ ((testing .initial 5 1 0 false).withPending (tickEvents [(true, low4)])).selfTest.pollingTimeout
        = [(true, low4)].length
      ∧ 0 < [(true, low4)].length
      ∧ ((testing .initial 5 1 0 false).withPending (tickEvents [(true, low4)])).burst.phase = .idle
      ∧ ((testing .initial 5 1 0 false).withPending (tickEvents [(true, low4)])).pending
        = tickEvents [(true, low4)] ++ [] := by decide

end Sys2Proof.Tests
end

section
/-! SUPPORT. The CRC operations (40_crc.md): the model's recursions as `Nat.iterate` and `List.foldl`, and what the two
instructions answer. -/

namespace Sys2Proof.Machine

/-- The model's loop of R131 is the library's iteration of one turn. -/
theorem crcShifts_eq_iterate (n : Nat) (c : Word) : crcShifts n c = crcShift^[n] c := by
  induction n generalizing c with
  | zero => rfl
  | succ n ih => rw [crcShifts, ih, Function.iterate_succ_apply]

theorem crcStep_eq_iterate (byte : Byte) (running : Word) :
    crcStep byte running = crcShift^[8] (running ^^^ byte.setWidth 16) :=
  crcShifts_eq_iterate 8 _

/-- `crc_step` sees its operands only through their XOR (R131), so the byte can be moved into the running value. -/
theorem crcStep_eq_crcStep_zero (byte : Byte) (running : Word) :
    crcStep byte running = crcStep 0 (running ^^^ byte.setWidth 16) := by
  rw [crcStep_eq_iterate, crcStep_eq_iterate, BitVec.ofNat_eq_ofNat, BitVec.setWidth_zero, BitVec.xor_zero]

theorem crcFold_eq_foldl (buf : Bytes) (c : Word) : crcFold buf c = buf.foldl (fun c b => crcStep b c) c := by
  induction buf generalizing c with
  | nil => rfl
  | cons b bs ih => rw [crcFold, ih, List.foldl_cons]

theorem crcWhole_eq_foldl (buf : Bytes) :
    crcWhole buf = buf.foldl (fun c b => crcStep b c) 0xFFFF ^^^ 0xFFFF := by
  rw [crcWhole, crcFold_eq_foldl]

/-- The initial value and the final XOR of R132 cancel where there is no byte. -/
@[simp] theorem crcWhole_nil : crcWhole [] = 0 := by
  rw [crcWhole, crcFold, BitVec.xor_self]
  rfl

theorem exec_crcStep (byte : Byte) (running : Word) (s : State) :
    exec (.crcStep byte running) s = .next (s.withRet (.word (crcStep byte running))) := rfl

theorem exec_crcWhole (buf : Bytes) (s : State) :
    exec (.crcWhole buf) s = .next (s.withRet (.word (crcWhole buf))) := rfl

/-- Settles O1: the loop is the iteration of `crcShift`, and the byte enters it only by the XOR in front of it. -/
theorem crcStepIsEightReflectedShifts : Obligations.CrcStepIsEightReflectedShifts := by
  intro byte running s
  refine ⟨?_, crcStep_eq_crcStep_zero byte running⟩
  rw [exec_crcStep, crcStep_eq_iterate]
  rfl

/-- Settles O2, by induction on the byte string (`crcFold_eq_foldl`). -/
theorem crcWholeFoldsCrcStep : Obligations.CrcWholeFoldsCrcStep := by
  intro buf s
  refine ⟨?_, crcWhole_nil⟩
  rw [exec_crcWhole, crcWhole_eq_foldl]
  rfl

end Sys2Proof.Machine
end

section
/-! SUPPORT. The reads of the error store (41_error_store.md R144 to R146): what each answers, and that a read of a cleared
register changes the answer alone. -/

namespace Sys2Proof.Machine

variable {s : State}

theorem exec_getError (s : State) :
    exec .getError s =
      .next ((s.withErrors { s.errors with errorNumber := 0 }).withRet (.word s.errors.errorNumber)) := rfl

theorem exec_getExecutedTests (s : State) :
    exec .getExecutedTests s =
      .next ((s.withErrors { s.errors with executedTests := 0 }).withRet (.word s.errors.executedTests)) := rfl

theorem exec_getDiagnoses (s : State) :
    exec .getDiagnoses s =
      .next ((s.withErrors { s.errors with diagnoses := 0 }).withRet (.word s.errors.diagnoses)) := rfl

theorem exec_getError_of_errorNumber_eq_zero (h : s.errors.errorNumber = 0) :
    exec .getError s = .next (s.withRet (.word 0)) := by
  have cleared : { s.errors with errorNumber := 0 } = s.errors := by rw [← h]
  rw [exec_getError, cleared, h]
  rfl

theorem exec_getExecutedTests_of_executedTests_eq_zero (h : s.errors.executedTests = 0) :
    exec .getExecutedTests s = .next (s.withRet (.word 0)) := by
  have cleared : { s.errors with executedTests := 0 } = s.errors := by rw [← h]
  rw [exec_getExecutedTests, cleared, h]
  rfl

theorem exec_getDiagnoses_of_diagnoses_eq_zero (h : s.errors.diagnoses = 0) :
    exec .getDiagnoses s = .next (s.withRet (.word 0)) := by
  have cleared : { s.errors with diagnoses := 0 } = s.errors := by rw [← h]
  rw [exec_getDiagnoses, cleared, h]
  rfl

/-- Settles O8: the first read leaves 0 in its register, and a read of a register at 0 answers 0 and keeps every other
field. -/
theorem gettersReadThenClear : Obligations.GettersReadThenClear := by
  intro s
  refine ⟨exec_getError s, exec_getExecutedTests s, exec_getDiagnoses s, ?_, ?_, ?_⟩
  · rintro t ⟨⟩
    exact exec_getError_of_errorNumber_eq_zero rfl
  · rintro t ⟨⟩
    exact exec_getExecutedTests_of_executedTests_eq_zero rfl
  · rintro t ⟨⟩
    exact exec_getDiagnoses_of_diagnoses_eq_zero rfl

end Sys2Proof.Machine
end

section
/-! SUPPORT. `Error` as a terminal state (42_watchdog.md R155): what each operation does to the watchdog triple once its state is
`Error`. A tick counts the reset lock down; nothing else writes the triple. -/

namespace Sys2Proof.Machine

variable {s t : State}

theorem watchdogSet_of_error (v : Word) (he : s.watchdog.state = .error) : watchdogSet v s = s := by
  rw [watchdogSet, he]

theorem watchdogTick_watchdog_of_error (he : s.watchdog.state = .error) :
    (watchdogTick s).watchdog =
      { s.watchdog with resetLockCounter := s.watchdog.resetLockCounter - 1 } := by
  rw [watchdogTick_eq, he]

/-- The self-test can only force the watchdog into `Error` (R156), where it already is. -/
theorem selftestHandler_watchdog_of_error (rb : Bool) (he : s.watchdog.state = .error) :
    (selftestHandler rb s).watchdog = s.watchdog :=
  (selftestHandler_watchdog s rb).resolve_right fun ⟨hne, _⟩ => hne he

/-- `trigger` clears `confirmation_flag` after the tick (R157), which leaves the triple as the tick left it. -/
theorem trigger_watchdog (rb : Bool) (s : State) :
    (trigger rb s).2.watchdog = (watchdogTick (selftestHandler rb s)).watchdog := rfl

theorem trigger_watchdog_of_error (rb : Bool) (he : s.watchdog.state = .error) :
    (trigger rb s).2.watchdog =
      { s.watchdog with resetLockCounter := s.watchdog.resetLockCounter - 1 } := by
  have same : (selftestHandler rb s).watchdog = s.watchdog := selftestHandler_watchdog_of_error rb he
  rw [trigger_watchdog, watchdogTick_watchdog_of_error (same.symm ▸ he), same]

theorem nackFor_watchdog (reason : NackKind) (f : Bytes) (s : State) :
    (nackFor reason f s).watchdog = s.watchdog := by
  rw [nackFor_eq, nack_eq]

/-- Of the effects a frame can have, only `exec_W` can write the triple (R251), and in `Error` it does not (R151). -/
theorem FrameEffect.watchdog_of_error {f : Bytes} (h : FrameEffect f s t) (he : s.watchdog.state = .error) :
    t.watchdog = s.watchdog := by
  rcases h with ⟨reason, _, rfl⟩ | rfl | ⟨v, _, _, rfl⟩ | ⟨i, v, _, rfl⟩ | ⟨i, rfl⟩ | rfl | rfl
  · exact nackFor_watchdog reason f s
  · rw [commandV_eq]
  · rw [commandW_eq, watchdogSet_of_error v he]
  · rw [commandS_eq]
  · rw [commandR_eq]
  · rw [commandD_eq]
  · rw [commandT_eq]

theorem receive_watchdog_of_error (b : Byte) (he : s.watchdog.state = .error) :
    (receive b s).watchdog = s.watchdog := by
  rcases receive_cases s b with ⟨_, _, resync⟩ | ⟨_, _, frame⟩ | ⟨_, data⟩
  · rw [resync, endResync_eq]
  · exact frame.watchdog_of_error he
  · rw [data]

theorem SameButBurst.watchdog (h : SameButBurst s t) : t.watchdog = s.watchdog := by
  rw [h]

theorem burstStart_sameButBurst (s : State) : SameButBurst s (burstStart s) := rfl

/-- Settles O56, event by event: of the events other than `RESET` only a tick writes the triple, and it keeps `Error`. -/
theorem errorIsLeftOnlyByReset : Obligations.ErrorIsLeftOnlyByReset := by
  intro s t he noReset hstep
  have popped (rest : List Event) : (s.withPending rest).watchdog.state = .error := he
  rcases step_cases s hstep with ⟨_, rfl⟩ | ⟨rest, isReset, _⟩ | ⟨b, rest, _, _, rfl⟩ | ⟨rb, levels, rest, _, _, rfl⟩
      | ⟨rest, _, _, rfl⟩ | ⟨rb, tflag, rest, _, _, rfl⟩ | ⟨rb, tflag, rest, _, _, rfl⟩
  · exact he
  · exact absurd isReset (noReset rest)
  · rw [receive_watchdog_of_error b (popped rest), popped]
  · rw [tick_watchdog, trigger_watchdog_of_error rb (popped rest), popped]
  · rw [(burstStart_sameButBurst _).watchdog, popped]
  · rw [(burstIterA_sameButBurst _ rb tflag).watchdog, popped]
  · rw [(burstIterB_sameButBurst _ rb tflag).watchdog, popped]

end Sys2Proof.Machine
end

section
/-! SUPPORT. `trigger` run on its own (42_watchdog.md R157): the handler, the tick and the gate as three operations. -/

namespace Sys2Proof.Machine

theorem exec_selftestHandler (rb : Bool) (s : State) : exec (.selftestHandler rb) s = .next (selftestHandler rb s) := rfl

theorem exec_watchdogTick (s : State) : exec .watchdogTick s = .next (watchdogTick s) := rfl

theorem exec_trigger (rb : Bool) (s : State) :
    exec (.trigger rb) s = .next ((trigger rb s).2.withRet (.bool (trigger rb s).1)) := rfl

/-- The gate (R157) on the state `u` that the handler and the tick leave: the flag is read, then cleared. -/
theorem trigger_eq_gate (rb : Bool) (s u : State) (hu : watchdogTick (selftestHandler rb s) = u) :
    trigger rb s =
      (decide (u.watchdog.counter > 0) && u.selfTest.confirmationFlag,
        u.withSelfTest { u.selfTest with confirmationFlag := false }) := by
  subst hu
  rfl

/-- Settles O13: the two states between are those the handler and the tick leave, and the gate is read on the second. -/
theorem triggerRunsHandlerThenTickThenGate : Obligations.TriggerRunsHandlerThenTickThenGate := by
  intro rb s
  refine ⟨selftestHandler rb s, watchdogTick (selftestHandler rb s), exec_selftestHandler rb s, exec_watchdogTick _, ?_⟩
  rw [exec_trigger, trigger_eq_gate rb s _ rfl]
  rfl

end Sys2Proof.Machine
end

section
/-! SUPPORT. `Failed` as a terminal state of the self-test (43_selftest.md R176): the handler there is `force_error`, and which
operations leave `test_state` as it is. -/

namespace Sys2Proof.Machine

variable {s t : State}

theorem exec_forceError (s : State) : exec .forceError s = .next (forceError s) := rfl

theorem forceError_watchdog_state (s : State) : (forceError s).watchdog.state = .error := by
  rw [forceError_eq]
  dsimp only
  split_ifs with he
  · exact he
  · rfl

@[simp] theorem forceError_selfTest (s : State) : (forceError s).selfTest = s.selfTest := by
  rw [forceError_eq]

theorem selftestHandler_of_failed (rb : Bool) (hf : s.selfTest.testState = .failed) :
    selftestHandler rb s = forceError s := by
  rw [selftestHandler, hf]

/-- In `Failed` a call of `trigger` consumes the confirmation (R157) and writes no other self-test register. -/
theorem trigger_selfTest_of_failed (rb : Bool) (hf : s.selfTest.testState = .failed) :
    (trigger rb s).2.selfTest = { s.selfTest with confirmationFlag := false } := by
  rw [trigger_eq_gate rb s _ rfl, State.withSelfTest_selfTest, watchdogTick_selfTest, selftestHandler_of_failed rb hf,
    forceError_selfTest]

theorem nackFor_selfTest (reason : NackKind) (f : Bytes) (s : State) :
    (nackFor reason f s).selfTest = s.selfTest := by
  rw [nackFor_eq, nack_selfTest]

/-- Of the effects a frame can have, only `exec_T` writes a self-test register, and that is `request_flag` (R255). -/
theorem FrameEffect.testState {f : Bytes} (h : FrameEffect f s t) : t.selfTest.testState = s.selfTest.testState := by
  rcases h with ⟨reason, _, rfl⟩ | rfl | ⟨v, _, _, rfl⟩ | ⟨i, v, _, rfl⟩ | ⟨i, rfl⟩ | rfl | rfl
  · rw [nackFor_selfTest]
  · rw [commandV_eq]
  · rw [commandW_eq]
  · rw [commandS_eq]
  · rw [commandR_eq]
  · rw [commandD_eq]
  · rw [commandT_eq]

theorem receive_testState (b : Byte) (s : State) : (receive b s).selfTest.testState = s.selfTest.testState := by
  rcases receive_cases s b with ⟨_, _, resync⟩ | ⟨_, _, frame⟩ | ⟨_, data⟩
  · rw [resync, endResync_eq]
  · exact frame.testState
  · rw [data]

theorem SameButBurst.selfTest (h : SameButBurst s t) : t.selfTest = s.selfTest := by
  rw [h]

/-- Event by event: of the events other than `RESET` only a tick runs the self-test, and in `Failed` its handler is
`force_error`. -/
theorem step_keeps_failed (hf : s.selfTest.testState = .failed) (noReset : ∀ rest, s.pending ≠ .reset :: rest)
    (hstep : step s = .next t) : t.selfTest.testState = .failed := by
  have popped (rest : List Event) : (s.withPending rest).selfTest.testState = .failed := hf
  rcases step_cases s hstep with ⟨_, rfl⟩ | ⟨rest, isReset, _⟩ | ⟨b, rest, _, _, rfl⟩ | ⟨rb, levels, rest, _, _, rfl⟩
      | ⟨rest, _, _, rfl⟩ | ⟨rb, tflag, rest, _, _, rfl⟩ | ⟨rb, tflag, rest, _, _, rfl⟩
  · exact hf
  · exact absurd isReset (noReset rest)
  · rw [receive_testState, popped]
  · rw [tick_selfTest, trigger_selfTest_of_failed rb (popped rest), popped]
  · rw [(burstStart_sameButBurst _).selfTest, popped]
  · rw [(burstIterA_sameButBurst _ rb tflag).selfTest, popped]
  · rw [(burstIterB_sameButBurst _ rb tflag).selfTest, popped]

/-- Settles O18: the handler of `Failed` is `force_error`, which writes only the triple; the rest is `step_keeps_failed`. -/
theorem failedIsTerminalAndForcesError : Obligations.FailedIsTerminalAndForcesError := by
  refine ⟨fun rb s hf => ?_, fun s t hf noReset hstep => step_keeps_failed hf noReset hstep⟩
  have handler : exec (.selftestHandler rb) s = .next (forceError s) := by
    rw [exec_selftestHandler, selftestHandler_of_failed rb hf]
  exact ⟨handler.trans (exec_forceError s).symm, forceError s, handler, forceError_watchdog_state s, forceError_selfTest s⟩

end Sys2Proof.Machine
end

section
/-! SUPPORT. The GPIO operations of a whole tick (44_cyclic_task.md R199), in the order of its steps, and what steps 5 and 6 make
of the pins (R196, R197). -/

namespace Sys2Proof

/-- The pin an operation is on. -/
def GpioOp.pin : GpioOp → Pin
  | .write p _ => p
  | .mode p _ => p
  | .read p => p

end Sys2Proof

namespace Sys2Proof.Machine

/-- The operations of step 4 (R194, R195), from the lock counter and the cyclic task's own flag: those of an edge, or none. -/
def lockOps (resetLockCounter : Nat) (locked : Bool) : List GpioOp :=
  if resetLockCounter ≠ 0 ∧ locked = false then [.mode .lock .output, .write .lock true]
  else if resetLockCounter = 0 ∧ locked = true then [.write .lock false, .mode .lock .inputTriState]
  else []

/-- The operations of step 7 (R198), from the watchdog's state, the counter before the step and the level after it: one write
where the LED is re-asserted or toggles. -/
def ledOps (state : WatchdogState) (ledTicks : Nat) (level : Bool) : List GpioOp :=
  if state = .init ∨ (if state = .ok then Config.ledOkTicks else Config.ledErrTicks) ≤ ledTicks + 1 then [.write .led level]
  else []

theorem pin_of_mem_lockOps {n : Nat} {locked : Bool} {op : GpioOp} (h : op ∈ lockOps n locked) : op.pin = .lock := by
  unfold lockOps at h
  split_ifs at h
  · rcases List.mem_pair.mp h with rfl | rfl <;> rfl
  · rcases List.mem_pair.mp h with rfl | rfl <;> rfl
  · exact absurd h List.not_mem_nil

theorem pin_of_mem_ledOps {w : WatchdogState} {n : Nat} {level : Bool} {op : GpioOp} (h : op ∈ ledOps w n level) :
    op.pin = .led := by
  obtain ⟨_, isWrite⟩ := List.mem_ite_nil_right.mp h
  rw [List.mem_singleton.mp isWrite, GpioOp.pin]

/-- A filter that looks for other pins finds nothing among the operations on `p`. -/
theorem filter_eq_nil_of_pin {p : Pin} {q : GpioOp → Bool} {ops : List GpioOp} (on : ∀ op ∈ ops, op.pin = p)
    (hq : ∀ op : GpioOp, op.pin = p → q op = false) : ops.filter q = [] :=
  List.filter_eq_nil_iff.mpr fun op hop => by simp [hq op (on op hop)]

variable (rb : Bool) (levels : Vector Bool 4) (s : State)

theorem sequenceLock_gpio :
    (sequenceLock s).gpio = s.gpio ++ lockOps s.watchdog.resetLockCounter s.cyclic.lockPinLocked := by
  rcases sequenceLock_cases s with ⟨required, unlocked, h⟩ | ⟨released, locked, h⟩ | ⟨noEdge, h⟩ <;> rw [h, lockOps]
  · rw [if_pos ⟨required, unlocked⟩]
  · rw [if_neg (fun hn => hn.1 released), if_pos ⟨released, locked⟩]
  · rw [if_neg (fun hn => by simp [noEdge.mp hn.1] at hn), if_neg (fun hn => noEdge.mpr hn.2 hn.1), List.append_nil]

theorem driveLed_gpio :
    (driveLed s).gpio = s.gpio ++ ledOps s.watchdog.state s.cyclic.ledTicks (driveLed s).pins.ledLevel := by
  rcases driveLed_cases s with ⟨init, h⟩ | ⟨_, elapsed, h⟩ | ⟨notInit, running, h⟩ <;> rw [h, ledOps, ← ledPeriod]
  · rw [if_pos (.inl init)]
  · rw [if_pos (.inr elapsed)]
  · rw [if_neg (not_or.mpr ⟨notInit, Nat.not_le.mpr running⟩), List.append_nil]

/-- The level of R196 without its nesting: outputs 3 to 6 are the steady ones (10_state.md R24). -/
theorem outLevel_eq (i : Fin 7) :
    outLevel s i =
      (decide (s.watchdog.state = .ok) && s.outputs[i] && (s.cyclic.highCycle || decide (3 ≤ i.val))) := by
  have hp : Config.pulsed[i] = !decide (3 ≤ i.val) := by revert i; decide
  rw [outLevel, hp]
  by_cases on : s.watchdog.state = .ok ∧ s.outputs[i] = true
  · rw [if_pos on, on.2, decide_eq_true on.1]
    cases decide (3 ≤ i.val) <;> simp
  · rw [if_neg on, ← Bool.decide_eq_true (b := s.outputs[i]), ← Bool.decide_and, decide_eq_false on, Bool.false_and]

/-- The levels step 5 drives are those of the state after the tick, since the later steps change nothing the level depends on. -/
theorem tick_outPin (i : Fin 7) : (tick rb levels s).pins.outPin[i] = outLevel (tick rb levels s) i := by
  rw [outLevel_eq, tick_watchdog, tick_outputs, tick_highCycle]
  simp [tick, driveLed_outPin, sampleInputs_pins, driveOutputs_pins, outLevel_eq, triggerStep_eq, trigger_outputs]

/-- All the operations of a tick (R199): the readback, `WD`, an edge of `LOCK` if there is one, the seven outputs, the four
inputs, `LED` if it is written. -/
theorem tick_gpio :
    (tick rb levels s).gpio =
      s.gpio ++ ([.read (.inp 0), .write .wd (tick rb levels s).pins.wdPin]
        ++ lockOps (tick rb levels s).watchdog.resetLockCounter s.cyclic.lockPinLocked
        ++ [0, 1, 2, 3, 4, 5, 6].map (fun i : Fin 7 => .write (.out i) (tick rb levels s).pins.outPin[i])
        ++ [.read (.inp 0), .read (.inp 1), .read (.inp 2), .read (.inp 3)]
        ++ ledOps (tick rb levels s).watchdog.state s.cyclic.ledTicks (tick rb levels s).pins.ledLevel) := by
  simp [tick, triggerStep_eq, driveWatchdogPin_gpio, sequenceLock_gpio, driveOutputs_gpio, sampleInputs_gpio, driveLed_gpio]

theorem exec_tick_of_idle (idle : s.burst.phase = .idle) : exec (.tick rb levels) s = .next (tick rb levels s) := by
  have h : burstIdle s = true := by simp [burstIdle, idle]
  exact if_pos h

/-- What looks neither at `LOCK` nor at `LED` sees only the unconditional operations of a tick. -/
theorem filter_tick_gpio {q : GpioOp → Bool}
    (other : ∀ op : GpioOp, op.pin = .lock ∨ op.pin = .led → q op = false) :
    (tick rb levels s).gpio.filter q =
      s.gpio.filter q ++ ([GpioOp.read (.inp 0), .write .wd (tick rb levels s).pins.wdPin]
        ++ [0, 1, 2, 3, 4, 5, 6].map (fun i : Fin 7 => GpioOp.write (.out i) (tick rb levels s).pins.outPin[i])
        ++ [GpioOp.read (.inp 0), .read (.inp 1), .read (.inp 2), .read (.inp 3)]).filter q := by
  have noLock := filter_eq_nil_of_pin
    (fun _ => pin_of_mem_lockOps (n := (tick rb levels s).watchdog.resetLockCounter) (locked := s.cyclic.lockPinLocked))
    (fun op h => other op (.inl h))
  have noLed := filter_eq_nil_of_pin
    (fun _ => pin_of_mem_ledOps (w := (tick rb levels s).watchdog.state) (n := s.cyclic.ledTicks)
      (level := (tick rb levels s).pins.ledLevel))
    (fun op h => other op (.inr h))
  rw [tick_gpio]
  simp only [List.filter_append, noLock, noLed, List.append_nil]

/-- Settles O44: the level is `tick_outPin`; of the operations of a tick (`filter_tick_gpio`) the only writes to outputs are step
5's seven and the only write to `WD` is step 3's. -/
theorem tickDrivesOutputsOnlyInOk : Obligations.TickDrivesOutputsOnlyInOk := by
  intro rb levels s idle
  refine ⟨_, exec_tick_of_idle rb levels s idle, tick_outputs s rb levels, fun i => ?_, ?_, ?_⟩
  · rw [tick_outPin, outLevel_eq, tick_outputs]
  · rw [filter_tick_gpio rb levels s (by rintro (_ | _ | _) (rfl | rfl) <;> rfl)]
    rfl
  · rw [filter_tick_gpio rb levels s (by rintro (_ | _ | _) (rfl | rfl) <;> rfl)]
    rfl

/-- Settles O45: step 6 stores the levels whole, and its four reads stand together in `tick_gpio`. -/
theorem tickSamplesEveryInput : Obligations.TickSamplesEveryInput := by
  intro rb levels s idle
  refine ⟨_, exec_tick_of_idle rb levels s idle, fun i => by rw [tick_inputs], ?_⟩
  rw [tick_gpio, List.drop_left]
  exact ⟨_, _, rfl⟩

end Sys2Proof.Machine
end

section
/-! SUPPORT. `ack` run on its own (46_receiver.md R234): its line written out, and the frame number's successor read as a number. -/

namespace Sys2Proof.Machine

theorem exec_ack (body : Bytes) (s : State) : exec (.ack body) s = .next (ack body s) := rfl

theorem responseLine_eq (fno : Word) (body : Bytes) :
    responseLine fno body =
      dec fno ++ [semi] ++ body ++ dec (crcWhole (dec fno ++ [semi] ++ body)) ++ [semi, lf] := by
  simp only [responseLine, closeLine, List.append_assoc, List.singleton_append]

theorem word_add_one_eq_ofNat_mod (n : Word) : n + 1 = BitVec.ofNat 16 ((n.toNat + 1) % 65536) := by
  apply BitVec.eq_of_toNat_eq
  rw [BitVec.toNat_add, BitVec.toNat_ofNat, Nat.mod_mod]
  rfl

/-- Settles O25: `ack_eq` holds the frame; the line is `responseLine_eq`, and the advance of the 16-bit register is the one
modulo 65536. -/
theorem ackSendsLineAndAdvancesFrameNumber : Obligations.AckSendsLineAndAdvancesFrameNumber := by
  intro body s
  rw [exec_ack, ack_eq, responseLine_eq, word_add_one_eq_ofNat_mod]
  rfl

end Sys2Proof.Machine
end

section
/-! SUPPORT. A request whose frame number and CRC are right (46_receiver.md R226 to R229) runs its own checks and effect
alone; and the requests `V`, `S` and `D` (47_commands.md R250, R252, R254) run on their own. -/

namespace Sys2Proof.Machine

variable {s : State} {fno index value crc : Bytes} {i v : Word}

/-- Checks 1 to 3 pass: the CRC token covers the tokens before it, and only `run` decides what follows. -/
theorem checkFrame_of_checks_pass {covered payload : List Bytes} {args : List Word}
    (run : List Word → State → State) (number : parseU16 fno = some s.receiver.nextExpectedFrameNumber)
    (fields : parseAll payload = some args)
    (right : parseU16 crc = some (crcWhole (joinTokens covered))) :
    checkFrame (joinTokens (covered ++ [crc])) fno crc payload run s = run args s := by
  simp only [checkFrame, number, fields, right, crcCover_joinTokens, ne_eq, not_true_eq_false, if_false]

theorem decBool_eq_singleton (b : Bool) : decBool b = [if b then 0x31 else 0x30] := by
  cases b <;> rfl

/-- A number of at most 1 is the `Bool` token of its own truth value (30_encoding.md R98). -/
theorem dec_eq_decBool (small : v.toNat ≤ 1) : dec v = decBool (v == 1) := by
  obtain rfl | rfl : v = 0 ∨ v = 1 := by bv_omega
  · rfl
  · rfl

theorem exec_reqV_of_checks_pass (number : parseU16 fno = some s.receiver.nextExpectedFrameNumber)
    (right : parseU16 crc = some (crcWhole (joinTokens [fno, [commandLetter .v]]))) :
    exec (.reqV fno crc) s = .next (commandV s) :=
  congrArg Host.Outcome.next
    (checkFrame_of_checks_pass (covered := [fno, [commandLetter .v]]) (payload := []) (args := []) (runV _) number rfl
      right)

theorem exec_reqD_of_checks_pass (number : parseU16 fno = some s.receiver.nextExpectedFrameNumber)
    (right : parseU16 crc = some (crcWhole (joinTokens [fno, [commandLetter .d]]))) :
    exec (.reqD fno crc) s = .next (commandD s) :=
  congrArg Host.Outcome.next
    (checkFrame_of_checks_pass (covered := [fno, [commandLetter .d]]) (payload := []) (args := []) (runD _) number rfl
      right)

theorem exec_reqS_of_checks_pass (number : parseU16 fno = some s.receiver.nextExpectedFrameNumber)
    (slot : parseU16 index = some i) (level : parseU16 value = some v)
    (right : parseU16 crc = some (crcWhole (joinTokens [fno, [commandLetter .s], index, value]))) :
    exec (.reqS fno index value crc) s =
      .next (runS (joinTokens [fno, [commandLetter .s], index, value, crc]) [i, v] s) :=
  have fields : parseAll [index, value] = some [i, v] := by simp only [parseAll, slot, level]
  congrArg Host.Outcome.next
    (checkFrame_of_checks_pass (covered := [fno, [commandLetter .s], index, value]) (runS _) number fields right)

section
variable (f : Bytes)

/-- The index is checked before the value (R233). -/
theorem runS_of_index_large (large : 7 ≤ i.toNat) : runS f [i, v] s = nack 6 f s := by
  rw [runS, dif_neg (by omega), nackFor_eq]
  rfl

theorem runS_of_value_large (exists_slot : i.toNat < 7) (large : 1 < v.toNat) :
    runS f [i, v] s = nack s.params.eInvalidValue f s := by
  rw [runS, dif_pos exists_slot, if_pos large, nackFor_eq]
  rfl

theorem runS_of_valid (exists_slot : i.toNat < 7) (small : v.toNat ≤ 1) :
    runS f [i, v] s = commandS ⟨i.toNat, exists_slot⟩ v s := by
  rw [runS, dif_pos exists_slot, if_neg (by omega)]

end

/-- What `S` sends (R252): the token of the new value is the request's own number. -/
theorem bodyS_of_small (old : Bool) (small : v.toNat ≤ 1) :
    bodyS i old (v == 1) =
      [0x53, 0x3B] ++ dec i ++ [0x3B, if old then 0x31 else 0x30, 0x3B] ++ dec v ++ [0x3B] := by
  rw [dec_eq_decBool small]
  simp [bodyS, joinTokens, commandLetter, semi, decBool_eq_singleton old]

/-- The bytes a request `S` puts before its CRC token (30_encoding.md R92, R99). -/
theorem joinTokens_reqS_covered (fno index value : Bytes) :
    joinTokens [fno, [commandLetter .s], index, value] =
      fno ++ [0x3B, 0x53, 0x3B] ++ index ++ [0x3B] ++ value ++ [0x3B] := by
  simp [joinTokens, commandLetter, semi]

theorem joinTokens_reqS (fno index value crc : Bytes) :
    joinTokens [fno, [commandLetter .s], index, value, crc] =
      fno ++ [0x3B, 0x53, 0x3B] ++ index ++ [0x3B] ++ value ++ [0x3B] ++ crc ++ [0x3B] := by
  simp [joinTokens, commandLetter, semi]

/-- Settles O32: checks 1 to 3 pass, so `exec_V` runs (`commandV_eq`) and its body is the version's. -/
theorem requestVOpensGateAndSendsVersion : Obligations.RequestVOpensGateAndSendsVersion := by
  intro fno crc s number right
  have body : bodyV s.params.version = [0x56, 0x3B] ++ s.params.version ++ [0x3B] := rfl
  rw [exec_reqV_of_checks_pass number right, commandV_eq, body]

/-- Settles O34: checks 1 to 3 pass, and `runS` decides between the store, the index's NACK and the value's. -/
theorem requestSStoresOneSlot : Obligations.RequestSStoresOneSlot := by
  intro fno index value crc i v s number slot level right
  rw [← joinTokens_reqS_covered] at right
  rw [exec_reqS_of_checks_pass number slot level right, ← joinTokens_reqS]
  refine ⟨fun exists_slot small => ?_, fun large => ?_, fun exists_slot large => ?_⟩
  · rw [runS_of_valid _ exists_slot small, commandS_eq, BitVec.ofNat_toNat, BitVec.setWidth_eq, bodyS_of_small _ small,
      beq_eq_decide]
    rfl
  · rw [runS_of_index_large _ large]
    rfl
  · rw [runS_of_value_large _ exists_slot large]
    rfl

/-- Settles O36: checks 1 to 3 pass, so `exec_D` runs (`commandD_eq`) and answers the three values before the clear. -/
theorem requestDReportsAndClears : Obligations.RequestDReportsAndClears := by
  intro fno crc s number right
  have body (d e t : Word) :
      bodyD d e t = [0x44, 0x3B] ++ dec d ++ [0x3B] ++ dec e ++ [0x3B] ++ dec t ++ [0x3B] := by
    simp [bodyD, joinTokens, commandLetter, semi]
  rw [exec_reqD_of_checks_pass number right, commandD_eq, body]

end Sys2Proof.Machine
end

section
/-! SUPPORT. Decimal numbers (30_encoding.md R96, R97): `parse_u16` as the decimal value of its digits, and `dec` as
the minimal digits of a value, which `parse_u16` reads back. -/

namespace Sys2Proof.Machine

/-- The value of the digits read so far and one digit more (R96). -/
def decimalStep (v : Nat) (d : Byte) : Nat := v * 10 + (d.toNat - 0x30)

theorem parseDigits_cons (d : Byte) (t : Bytes) (v : Nat) :
    parseDigits (d :: t) v =
      if isDigit d then if 65535 < decimalStep v d then none else parseDigits t (decimalStep v d) else none := rfl

theorem isDigit_iff (d : Byte) : isDigit d = true ↔ 0x30 ≤ d.toNat ∧ d.toNat ≤ 0x39 := by
  simp [isDigit]

theorem le_foldl_decimalStep (t : Bytes) (v : Nat) : v ≤ t.foldl decimalStep v := by
  induction t generalizing v with
  | nil => exact le_rfl
  | cons d t ih => exact le_trans (by unfold decimalStep; omega) (ih (decimalStep v d))

/-- The loop of `parse_u16`: since the value only grows, its early reject is a reject of the value of the whole token.
-/
theorem parseDigits_eq (t : Bytes) (v : Nat) (small : v ≤ 65535) :
    parseDigits t v =
      if (∀ d ∈ t, isDigit d = true) ∧ t.foldl decimalStep v ≤ 65535 then
        some (BitVec.ofNat 16 (t.foldl decimalStep v))
      else none := by
  induction t generalizing v with
  | nil => simp [parseDigits, small]
  | cons d t ih =>
    by_cases digit : isDigit d = true
    · by_cases large : 65535 < decimalStep v d
      · have reject : ¬ t.foldl decimalStep (decimalStep v d) ≤ 65535 := by
          have := le_foldl_decimalStep t (decimalStep v d)
          omega
        rw [parseDigits_cons, if_pos digit, if_pos large, List.foldl_cons, if_neg fun h => reject h.2]
      · rw [parseDigits_cons, if_pos digit, if_neg large]
        simpa [digit] using ih (decimalStep v d) (by omega)
    · rw [parseDigits_cons, if_neg digit, if_neg fun h => digit (h.1 d List.mem_cons_self)]

theorem parseU16_eq (t : Bytes) :
    parseU16 t =
      if t ≠ [] ∧ (∀ d ∈ t, isDigit d = true) ∧ t.foldl decimalStep 0 ≤ 65535 then
        some (BitVec.ofNat 16 (t.foldl decimalStep 0))
      else none := by
  by_cases empty : t = []
  · simp [parseU16, empty]
  · simp [parseU16, empty, parseDigits_eq t 0 (Nat.zero_le _)]

theorem toNat_digit {n : Nat} (h : n < 10) : (BitVec.ofNat 8 (0x30 + n)).toNat = 0x30 + n := by
  rw [BitVec.toNat_ofNat]
  omega

theorem isDigit_digit {n : Nat} (h : n < 10) : isDigit (BitVec.ofNat 8 (0x30 + n)) = true := by
  rw [isDigit_iff, toNat_digit h]
  omega

theorem isDigit_of_mem_decDigits {k n : Nat} {d : Byte} (h : d ∈ decDigits k n) : isDigit d = true := by
  induction k generalizing n with
  | zero => exact absurd h List.not_mem_nil
  | succ k ih =>
    rw [decDigits] at h
    split at h
    · rw [List.mem_singleton.mp h, isDigit_digit ‹_›]
    · rcases List.mem_append.mp h with front | last
      · exact ih front
      · rw [List.mem_singleton.mp last, isDigit_digit (by omega)]

theorem length_decDigits_le (k n : Nat) : (decDigits k n).length ≤ k := by
  induction k generalizing n with
  | zero => exact le_rfl
  | succ k ih =>
    rw [decDigits]
    split
    · simp
    · simpa using ih (n / 10)

theorem decDigits_succ_ne_nil (k n : Nat) : decDigits (k + 1) n ≠ [] := by
  rw [decDigits]
  split <;> simp

theorem foldl_decDigits {k n : Nat} (h : n < 10 ^ k) : (decDigits k n).foldl decimalStep 0 = n := by
  induction k generalizing n with
  | zero => rw [decDigits, List.foldl_nil]; omega
  | succ k ih =>
    rw [decDigits]
    split
    · rw [List.foldl_cons, List.foldl_nil, decimalStep, toNat_digit ‹_›]
      omega
    · have front : n / 10 < 10 ^ k := by rw [pow_succ] at h; omega
      rw [List.foldl_append, ih front, List.foldl_cons, List.foldl_nil, decimalStep, toNat_digit (by omega)]
      omega

/-- No leading zero: a first digit 0 stands alone, for the number 0. -/
theorem eq_zero_of_head_decDigits {k n : Nat} (h : n < 10 ^ k) (zero : (decDigits k n).head? = some 0x30) : n = 0 := by
  induction k generalizing n with
  | zero => exact absurd zero (by simp [decDigits])
  | succ k ih =>
    rw [decDigits] at zero
    split at zero
    · have same : (BitVec.ofNat 8 (0x30 + n)).toNat = 0x30 := by
        simpa using congrArg BitVec.toNat (Option.some.inj zero)
      rw [toNat_digit ‹_›] at same
      omega
    · have front : n / 10 < 10 ^ k := by rw [pow_succ] at h; omega
      obtain ⟨k, rfl⟩ : ∃ j, k = j + 1 := Nat.exists_eq_succ_of_ne_zero (by rintro rfl; omega)
      rw [List.head?_append_of_ne_nil _ (decDigits_succ_ne_nil k _)] at zero
      have := ih front zero
      omega

theorem toNat_lt_ten_pow (n : Word) : n.toNat < 10 ^ 5 := by
  have := n.isLt
  omega

theorem isDigit_of_mem_dec {n : Word} {d : Byte} (h : d ∈ dec n) : isDigit d = true := isDigit_of_mem_decDigits h

theorem dec_ne_nil (n : Word) : dec n ≠ [] := decDigits_succ_ne_nil 4 n.toNat

/-- `parse_u16` reads `dec` back (the source's P3). -/
@[simp] theorem parseU16_dec (n : Word) : parseU16 (dec n) = some n := by
  have value : (dec n).foldl decimalStep 0 = n.toNat := foldl_decDigits (toNat_lt_ten_pow n)
  have small : n.toNat ≤ 65535 := Nat.le_of_lt_succ n.isLt
  rw [parseU16_eq, value, if_pos ⟨dec_ne_nil n, fun _ => isDigit_of_mem_dec, small⟩,
    BitVec.ofNat_toNat, BitVec.setWidth_eq]

theorem dec_no_semi (n : Word) : semi ∉ dec n := parseU16_no_semi (dec n) n (parseU16_dec n)

theorem exec_parseU16 (t : Bytes) (s : State) : exec (.parseU16 t) s = .next (s.withRet (.parsed (parseU16 t))) := rfl

theorem exec_dec (n : Word) (s : State) : exec (.dec n) s = .next (s.withRet (.bytes (dec n))) := rfl

/-- Settles O4, by the closed form of the loop (`parseDigits_eq`). -/
theorem parseU16AcceptsDecimalsUpTo65535 : Obligations.ParseU16AcceptsDecimalsUpTo65535 := by
  intro t s
  have step : (fun (v : Nat) (d : Byte) => v * 10 + (d.toNat - 0x30)) = decimalStep := rfl
  rw [exec_parseU16, parseU16_eq, step]
  simp only [isDigit_iff]
  rfl

/-- Settles O5: the digits, their number and their value are the four facts about `decDigits`, by induction on the
digits. -/
theorem decIsMinimalAndParsesBack : Obligations.DecIsMinimalAndParsesBack := by
  intro n s
  refine ⟨dec n, exec_dec n s, List.length_pos_of_ne_nil (dec_ne_nil n), length_decDigits_le 5 _,
    fun d hd => (isDigit_iff d).mp (isDigit_of_mem_dec hd), fun zero => ?_, ?_⟩
  · have isZero : n.toNat = 0 := eq_zero_of_head_decDigits (toNat_lt_ten_pow n) zero
    rw [dec, isZero]
    rfl
  · rw [exec_parseU16, parseU16_dec]
    rfl

end Sys2Proof.Machine
end

section
/-! SUPPORT. The CRC is injective in the running value and in the byte (40_crc.md R131): each turn of the loop can be
undone, since the polynomial's top bit tells the two branches apart. -/

namespace Sys2Proof.Machine

theorem getLsbD_ushiftRight_one_top (c : Word) : (c >>> 1).getLsbD 15 = false := by
  rw [BitVec.getLsbD_ushiftRight]
  exact BitVec.getLsbD_of_ge c _ (by decide)

theorem getLsbD_crcShift_top (c : Word) : (crcShift c).getLsbD 15 = decide (c &&& 1 = 1) := by
  rw [crcShift]
  split_ifs with odd
  · rw [BitVec.getLsbD_xor, getLsbD_ushiftRight_one_top, decide_eq_true odd]
    decide
  · rw [getLsbD_ushiftRight_one_top, decide_eq_false odd]

theorem and_one_eq_one_iff (c : Word) : c &&& 1 = 1 ↔ c.toNat % 2 = 1 := by
  rw [← BitVec.toNat_inj, BitVec.toNat_and]
  exact (congrArg (· = 1) (Nat.and_one_is_mod c.toNat)).to_iff

/-- A word is its low bit and the rest. -/
theorem eq_of_ushiftRight_one_eq {c d : Word} (low : c &&& 1 = 1 ↔ d &&& 1 = 1) (rest : c >>> 1 = d >>> 1) : c = d := by
  rw [and_one_eq_one_iff, and_one_eq_one_iff] at low
  have half := congrArg BitVec.toNat rest
  simp only [BitVec.toNat_ushiftRight, Nat.shiftRight_eq_div_pow, pow_one] at half
  apply BitVec.eq_of_toNat_eq
  omega

theorem crcShift_injective : Function.Injective crcShift := by
  intro c d h
  have low : c &&& 1 = 1 ↔ d &&& 1 = 1 := by
    rw [← decide_eq_decide, ← getLsbD_crcShift_top, ← getLsbD_crcShift_top, h]
  refine eq_of_ushiftRight_one_eq low ?_
  unfold crcShift at h
  by_cases odd : c &&& 1 = 1
  · rw [if_pos odd, if_pos (low.mp odd)] at h
    exact (BitVec.xor_left_inj _).mp h
  · rwa [if_neg odd, if_neg (odd ∘ low.mpr)] at h

theorem crcStep_injective (byte : Byte) : Function.Injective (crcStep byte) := by
  intro c d h
  rw [crcStep_eq_iterate, crcStep_eq_iterate] at h
  exact (BitVec.xor_left_inj _).mp (crcShift_injective.iterate 8 h)

theorem crcStep_byte_injective (running : Word) : Function.Injective (crcStep · running) := by
  intro a b h
  simp only [crcStep_eq_iterate] at h
  have widened := congrArg BitVec.toNat ((BitVec.xor_right_inj _).mp (crcShift_injective.iterate 8 h))
  apply BitVec.eq_of_toNat_eq
  rw [BitVec.toNat_setWidth, BitVec.toNat_setWidth] at widened
  omega

theorem crcFold_injective (buf : Bytes) : Function.Injective (crcFold buf) := by
  induction buf with
  | nil => exact fun _ _ h => h
  | cons b bs ih => exact fun _ _ h => crcStep_injective b (ih h)

theorem crcFold_append (xs ys : Bytes) (c : Word) : crcFold (xs ++ ys) c = crcFold ys (crcFold xs c) := by
  simp only [crcFold_eq_foldl, List.foldl_append]

/-- Settles O3: the running values differ after the byte that differs, and every later byte keeps them apart. -/
theorem crcSeparatesStringsOneByteApart : Obligations.CrcSeparatesStringsOneByteApart := by
  intro before after a b differ same
  have folds : crcFold (before ++ a :: after) 0xFFFF = crcFold (before ++ b :: after) 0xFFFF :=
    (BitVec.xor_left_inj _).mp same
  rw [crcFold_append, crcFold_append, crcFold, crcFold] at folds
  exact differ (crcStep_byte_injective _ (crcFold_injective after folds))

end Sys2Proof.Machine
end

section
/-! SUPPORT. Request frames (30_encoding.md R92 to R99): which raw frame is which request, said once, and from it the
decoder, the encoder, well-formedness and the meaning of the six rows. -/

namespace Sys2Proof

open Machine

/-- The raw frame of each request (R99). -/
inductive RequestOf : RawFrame → Instr → Prop
  | v (fno crc : Bytes) : RequestOf ⟨fno, [commandLetter .v], [], crc⟩ (.reqV fno crc)
  | w (fno value crc : Bytes) : RequestOf ⟨fno, [commandLetter .w], [value], crc⟩ (.reqW fno value crc)
  | s (fno index value crc : Bytes) :
      RequestOf ⟨fno, [commandLetter .s], [index, value], crc⟩ (.reqS fno index value crc)
  | r (fno index crc : Bytes) : RequestOf ⟨fno, [commandLetter .r], [index], crc⟩ (.reqR fno index crc)
  | d (fno crc : Bytes) : RequestOf ⟨fno, [commandLetter .d], [], crc⟩ (.reqD fno crc)
  | t (fno crc : Bytes) : RequestOf ⟨fno, [commandLetter .t], [], crc⟩ (.reqT fno crc)

variable {i : Instr} {r : RawFrame} {f : Bytes}

theorem decodeRequest_eq_ok : decodeRequest r = .ok i ↔ RequestOf r i := by
  constructor
  · intro h
    obtain ⟨fno, cmd, payload, crc⟩ := r
    simp only [decodeRequest] at h
    split at h
    case h_1 hc => cases (commandOf_eq_some _ _).mp hc; cases h; exact .v fno crc
    case h_2 hc => cases (commandOf_eq_some _ _).mp hc; cases h; exact .w fno _ crc
    case h_3 hc => cases (commandOf_eq_some _ _).mp hc; cases h; exact .s fno _ _ crc
    case h_4 hc => cases (commandOf_eq_some _ _).mp hc; cases h; exact .r fno _ crc
    case h_5 hc => cases (commandOf_eq_some _ _).mp hc; cases h; exact .d fno crc
    case h_6 hc => cases (commandOf_eq_some _ _).mp hc; cases h; exact .t fno crc
    case h_7 => cases h
    case h_8 => cases h
  · rintro (_ | _ | _ | _ | _ | _) <;> rfl

namespace RequestOf

theorem requestTokens_eq (h : RequestOf r i) : requestTokens i = some r.tokens := by
  cases h <;> rfl

theorem exists_of_requestTokens {ts : List Bytes} (h : requestTokens i = some ts) :
    ∃ r, RequestOf r i ∧ r.tokens = ts := by
  cases i <;> cases h
  case reqV fno crc => exact ⟨_, .v fno crc, rfl⟩
  case reqW fno value crc => exact ⟨_, .w fno value crc, rfl⟩
  case reqS fno index value crc => exact ⟨_, .s fno index value crc, rfl⟩
  case reqR fno index crc => exact ⟨_, .r fno index crc, rfl⟩
  case reqD fno crc => exact ⟨_, .d fno crc, rfl⟩
  case reqT fno crc => exact ⟨_, .t fno crc, rfl⟩

theorem cmd_no_semi (h : RequestOf r i) : semi ∉ r.cmd := by
  cases h <;> exact commandLetter_no_semi _

/-- Well-formed: every token but the command is a number (R93), and the frame fits the buffer (R94). -/
theorem wellFormed_iff (h : RequestOf r i) :
    wellFormed i = true ↔
      isNumber r.fno = true ∧ (∀ t ∈ r.payload, isNumber t = true) ∧ isNumber r.crc = true
        ∧ (joinTokens r.tokens).length ≤ 20 := by
  have fits (f : Bytes) : fitsBuffer f = true ↔ f.length ≤ 20 := decide_eq_true_iff
  cases h <;> simp [wellFormed, RawFrame.tokens, fits, and_assoc]

/-- A request row is the handling of its own frame: the checks of numbers, then its command's (R224 to R233). -/
theorem exec_eq (h : RequestOf r i) (s : State) :
    exec i s =
      .next (checkFrame (joinTokens r.tokens) r.fno r.crc r.payload (runCommand r.cmd (joinTokens r.tokens)) s) := by
  cases h <;> rfl

end RequestOf

theorem isNumber_iff (t : Bytes) : isNumber t = true ↔ ∃ n, Machine.parseU16 t = some n := by
  rw [isNumber, Option.isSome_iff_exists]

theorem no_semi_of_isNumber {t : Bytes} (h : isNumber t = true) : semi ∉ t := by
  obtain ⟨n, hn⟩ := (isNumber_iff t).mp h
  exact parseU16_no_semi t n hn

theorem parseAll_isSome_iff (ts : List Bytes) :
    (∃ vs, parseAll ts = some vs) ↔ ∀ t ∈ ts, ∃ n, Machine.parseU16 t = some n := by
  induction ts with
  | nil => simp [parseAll]
  | cons t ts ih =>
    rw [List.forall_mem_cons, ← ih]
    constructor
    · rintro ⟨vs, h⟩
      obtain ⟨v, vs, hv, hvs, rfl⟩ := List.forall₂_cons_left_iff.mp ((parseAll_eq_some _ _).mp h)
      exact ⟨⟨v, hv⟩, vs, (parseAll_eq_some _ _).mpr hvs⟩
    · rintro ⟨⟨v, hv⟩, vs, hvs⟩
      exact ⟨v :: vs, by simp only [parseAll, hv, hvs]⟩

/-- Where the tokens are numbers, only the command and the payload's count decide (R231, R232). -/
theorem decode_of_parses {n c : Word} {args : List Word} (tok : tokenise f = some r)
    (hn : Machine.parseU16 r.fno = some n) (ha : parseAll r.payload = some args) (hc : Machine.parseU16 r.crc = some c) :
    decode f = decodeRequest r := by
  simp only [decode, tok, hn, ha, hc]

theorem decodeRequest_ne_malformed (r : RawFrame) : decodeRequest r ≠ .error .malformed := by
  unfold decodeRequest
  split <;> exact nofun

/-- A frame decodes to a request exactly if its tokens are numbers but for the command, and make that request. -/
theorem decode_eq_ok :
    decode f = .ok i ↔
      ∃ r, tokenise f = some r ∧ isNumber r.fno = true ∧ (∀ t ∈ r.payload, isNumber t = true)
        ∧ isNumber r.crc = true ∧ RequestOf r i := by
  simp only [isNumber_iff, ← decodeRequest_eq_ok]
  constructor
  · intro h
    unfold decode at h
    split at h
    · cases h
    · split at h
      case h_1 n args c hn ha hc => exact ⟨_, ‹_›, ⟨n, hn⟩, (parseAll_isSome_iff _).mp ⟨args, ha⟩, ⟨c, hc⟩, h⟩
      case h_2 => cases h
  · rintro ⟨r, tok, ⟨n, hn⟩, numbers, ⟨c, hc⟩, h⟩
    obtain ⟨args, ha⟩ := (parseAll_isSome_iff _).mpr numbers
    rw [decode_of_parses tok hn ha hc, h]

/-- Settles O21: the encoder's tokens are those of the request's raw frame, and a raw frame whose tokens hold no `;`
is what `tokenise` reads from their join. -/
theorem decodeOfEncodeIsTheRequest : Obligations.DecodeOfEncodeIsTheRequest := by
  intro i f wf enc
  obtain ⟨ts, tokens, rfl⟩ := Option.map_eq_some_iff.mp enc
  obtain ⟨r, request, rfl⟩ := RequestOf.exists_of_requestTokens tokens
  obtain ⟨fno, payload, crc, fits⟩ := request.wellFormed_iff.mp wf
  have noSemi : ∀ t ∈ r.tokens, semi ∉ t := by
    simp only [RawFrame.tokens, List.forall_mem_cons, List.forall_mem_append]
    exact ⟨no_semi_of_isNumber fno, request.cmd_no_semi, fun t ht => no_semi_of_isNumber (payload t ht),
      no_semi_of_isNumber crc, by simp⟩
  exact ⟨decode_eq_ok.mpr ⟨r, (tokenise_eq_some _ r).mpr ⟨rfl, noSemi⟩, fno, payload, crc, request⟩, fits⟩

/-- Settles O22: the frame is the join of the raw frame's tokens (`tokenise_eq_some`), which are the request's. -/
theorem encodeOfDecodeIsTheFrame : Obligations.EncodeOfDecodeIsTheFrame := by
  intro i f dec
  obtain ⟨r, tok, fno, payload, crc, request⟩ := decode_eq_ok.mp dec
  obtain ⟨rfl, -⟩ := (tokenise_eq_some f r).mp tok
  refine ⟨?_, fun fits => request.wellFormed_iff.mpr ⟨fno, payload, crc, fits⟩⟩
  rw [encode, request.requestTokens_eq, Option.map_some]

end Sys2Proof

namespace Sys2Proof.Machine

variable {r : RawFrame} {f : Bytes}

theorem exec_handleFrame (f : Bytes) (s : State) : exec (.handleFrame f) s = .next (handleFrame f s) := rfl

theorem exec_nack (code : Word) (f : Bytes) (s : State) : exec (.nack code f) s = .next (nack code f s) := rfl

theorem handleFrame_of_tokenise (tok : tokenise f = some r) (s : State) :
    handleFrame f s = checkFrame f r.fno r.crc r.payload (runCommand r.cmd f) s := by
  rw [handleFrame, tok]

theorem exec_handleFrame_of_decode {i : Instr} (h : decode f = .ok i) (s : State) :
    exec (.handleFrame f) s = exec i s := by
  obtain ⟨r, tok, -, -, -, request⟩ := decode_eq_ok.mp h
  obtain ⟨joined, -⟩ := (tokenise_eq_some f r).mp tok
  rw [exec_handleFrame, handleFrame_of_tokenise tok, request.exec_eq, joined]

/-- Settles O30: frame and row run the same checks on the same tokens. -/
theorem handleFrameRunsTheDecodedRequest : Obligations.HandleFrameRunsTheDecodedRequest :=
  fun _ _ s h => exec_handleFrame_of_decode h s

/-- A frame is malformed exactly if it has no tokens or one of them, the command aside, is no number; its handling
then ends at check 1 (R226, R227). -/
theorem handleFrame_of_malformed (h : decode f = .error .malformed) (s : State) :
    handleFrame f s = nackFor .invalidFrame f s := by
  cases tok : tokenise f with
  | none => rw [handleFrame, tok]
  | some r =>
    rw [handleFrame_of_tokenise tok, checkFrame]
    split
    case h_1 n args c hn ha hc =>
      rw [decode_of_parses tok hn ha hc] at h
      exact absurd h (decodeRequest_ne_malformed r)
    case h_2 => rfl

variable {cmd : Bytes} {c : Command} {args : List Word}

theorem exists_requestOf_of_length_eq_arity (hc : commandOf r.cmd = some c) (count : r.payload.length = arity c) :
    ∃ i, RequestOf r i := by
  obtain ⟨fno, cmd, payload, crc⟩ := r
  obtain rfl := (commandOf_eq_some cmd c).mp hc
  cases c
  case v => obtain rfl : payload = [] := List.length_eq_zero_iff.mp count; exact ⟨_, .v fno crc⟩
  case w => obtain ⟨value, rfl⟩ := List.length_eq_one_iff.mp count; exact ⟨_, .w ..⟩
  case s => obtain ⟨index, value, rfl⟩ := List.length_eq_two.mp count; exact ⟨_, .s ..⟩
  case r => obtain ⟨index, rfl⟩ := List.length_eq_one_iff.mp count; exact ⟨_, .r ..⟩
  case d => obtain rfl : payload = [] := List.length_eq_zero_iff.mp count; exact ⟨_, .d fno crc⟩
  case t => obtain rfl : payload = [] := List.length_eq_zero_iff.mp count; exact ⟨_, .t fno crc⟩

/-- Check 5 (R232): a payload count that is not the command's. -/
theorem runCommand_of_length_ne_arity (hc : commandOf cmd = some c) (count : args.length ≠ arity c) (f : Bytes)
    (s : State) : runCommand cmd f args s = nackFor .invalidFrame f s := by
  rw [runCommand, hc]
  cases c
  case v => dsimp only; unfold runV; split <;> [exact absurd rfl count; rfl]
  case w => dsimp only; unfold runW; split <;> [exact absurd rfl count; rfl]
  case s => dsimp only; unfold runS; split <;> [exact absurd rfl count; rfl]
  case r => dsimp only; unfold runR; split <;> [exact absurd rfl count; rfl]
  case d => dsimp only; unfold runD; split <;> [exact absurd rfl count; rfl]
  case t => dsimp only; unfold runT; split <;> [exact absurd rfl count; rfl]

/-- Check 4 (R231). -/
theorem runCommand_of_unknownCommand (h : decodeRequest r = .error .unknownCommand) (f : Bytes) (args : List Word)
    (s : State) : runCommand r.cmd f args s = nackFor .invalidCommand f s := by
  have unknown : commandOf r.cmd = none := by
    unfold decodeRequest at h
    split at h
    case h_8 => assumption
    all_goals cases h
  rw [runCommand, unknown]

theorem runCommand_of_wrongArity (h : decodeRequest r = .error .wrongArity) (ha : parseAll r.payload = some args)
    (f : Bytes) (s : State) : runCommand r.cmd f args s = nackFor .invalidFrame f s := by
  have sameCount : r.payload.length = args.length := ((parseAll_eq_some _ _).mp ha).length_eq
  cases hc : commandOf r.cmd with
  | none => simp [decodeRequest, hc] at h
  | some c =>
    refine runCommand_of_length_ne_arity hc (fun count => ?_) f s
    obtain ⟨i, request⟩ := exists_requestOf_of_length_eq_arity hc (sameCount.trans count)
    rw [decodeRequest_eq_ok.mpr request] at h
    cases h

/-- Settles O29: `checkFrame`'s branches in their order, and behind them `runCommand`'s two refusals of a frame that
is no request. -/
theorem handleFrameNacksFirstFailingCheck : Obligations.HandleFrameNacksFirstFailingCheck := by
  intro f s
  refine ⟨fun malformed => ?_, fun r n c args tok hn ha hc => ?_⟩
  · rw [exec_handleFrame, handleFrame_of_malformed malformed]
    rfl
  · have checks : handleFrame f s =
        if n ≠ s.receiver.nextExpectedFrameNumber then nackFor .unexpectedFrameNumber f s
        else if c ≠ crcWhole (crcCover f r.crc) then nackFor .invalidCrc f s else runCommand r.cmd f args s := by
      simp only [handleFrame_of_tokenise tok, checkFrame, hn, ha, hc]
    rw [exec_handleFrame, checks, decode_of_parses tok hn ha hc]
    refine ⟨fun number => ?_, fun number crc => ?_, fun number crc => ⟨fun unknown => ?_, fun wrong => ?_⟩⟩
    · rw [if_pos number]
      rfl
    · rw [if_neg (not_not_intro number), if_pos crc]
      rfl
    · rw [if_neg (not_not_intro number), if_neg (not_not_intro crc), runCommand_of_unknownCommand unknown]
      rfl
    · rw [if_neg (not_not_intro number), if_neg (not_not_intro crc), runCommand_of_wrongArity wrong ha]
      rfl

end Sys2Proof.Machine
end

section
/-! SUPPORT. Response lines (30_encoding.md R100 to R103): a line is the join of its tokens, its CRC covers all but
the last, and the host reads back every body whose tokens it can read. -/

namespace Sys2Proof

open Machine

variable {cmd : Bytes} {payload : List Bytes} {i : Instr}

/-- A response line is the join of its tokens and the line feed, the last token the CRC of those before it (R103). -/
theorem responseLine_joinTokens (fno : Word) (ts : List Bytes) :
    responseLine fno (joinTokens ts) =
      joinTokens (Machine.dec fno :: ts
        ++ [Machine.dec (Machine.crcWhole (joinTokens (Machine.dec fno :: ts)))]) ++ [lf] := by
  simp [responseLine, closeLine, joinTokens, joinTokens_append]

/-- Number, command, payload and a right CRC: the host reads the frame number and what the body says. -/
theorem decodeLine_responseLine (fno : Word) (command : semi ∉ cmd) (fields : ∀ t ∈ payload, semi ∉ t)
    (body : decodeBody cmd payload = some i) :
    decodeLine (responseLine fno (joinTokens (cmd :: payload))) = some (fno, i) := by
  let covered := joinTokens (Machine.dec fno :: cmd :: payload)
  let raw : RawFrame := ⟨Machine.dec fno, cmd, payload, Machine.dec (Machine.crcWhole covered)⟩
  have noSemi : ∀ t ∈ raw.tokens, semi ∉ t := by
    simp only [raw, RawFrame.tokens, List.forall_mem_cons, List.forall_mem_append]
    exact ⟨dec_no_semi _, command, fields, dec_no_semi _, by simp⟩
  have tok : tokenise (joinTokens raw.tokens) = some raw := (tokenise_eq_some _ _).mpr ⟨rfl, noSemi⟩
  have cover : crcCover (joinTokens raw.tokens) raw.crc = covered :=
    crcCover_joinTokens (Machine.dec fno :: cmd :: payload) _
  have line : responseLine fno (joinTokens (cmd :: payload)) = joinTokens raw.tokens ++ [lf] :=
    responseLine_joinTokens fno _
  rw [line, decodeLine, List.getLast?_concat, if_pos rfl, List.dropLast_concat, tok]
  simp only [cover]
  simp only [raw, parseU16_dec, body, if_true]

@[simp] theorem parseBool_decBool (b : Bool) : parseBool (decBool b) = some b := by
  cases b <;> rfl

theorem decBool_no_semi (b : Bool) : semi ∉ decBool b := by
  cases b <;> decide

theorem unbracket_bracketed (q : Bytes) : unbracket (lbracket :: q ++ [rbracket]) = some q := by
  have last : (q ++ [rbracket]).getLast? = some rbracket := List.getLast?_concat
  rw [List.cons_append, unbracket, if_pos ⟨rfl, last⟩, List.dropLast_concat]

theorem splitTokens_concat_semi (t : Bytes) : ∃ u us, splitTokens (t ++ [semi]) = (u :: us, []) := by
  induction t with
  | nil => exact ⟨[], [], rfl⟩
  | cons b t ih =>
    obtain ⟨u, us, split⟩ := ih
    rw [List.cons_append, splitTokens, split]
    split_ifs
    · exact ⟨[], u :: us, rfl⟩
    · exact ⟨b :: u, us, rfl⟩

/-- The tokens of a quoted text, which may itself hold `;` (R101): the host joins them again. -/
theorem exists_tokens_of_text (t : Bytes) :
    ∃ u us, joinTokens (u :: us) = t ++ [semi] ∧ ∀ x ∈ u :: us, semi ∉ x := by
  obtain ⟨u, us, split⟩ := splitTokens_concat_semi t
  have noSemi := splitTokens_token_semi (t ++ [semi])
  rw [split] at noSemi
  exact ⟨u, us, joinTokens_splitTokens _ _ split, noSemi⟩

theorem decodeBody_letterE (tokens : List Bytes) : decodeBody [letterE] tokens = decodeNegative tokens := if_pos rfl

theorem decodeLine_bodyNack (fno code : Word) {q : Bytes} (printable : ∀ b ∈ q, isPrintable b = true) :
    decodeLine (responseLine fno (bodyNack code q)) = some (fno, .nackLine code q) := by
  obtain ⟨u, us, joined, noSemi⟩ := exists_tokens_of_text (lbracket :: q ++ [rbracket])
  have body : bodyNack code q = joinTokens ([letterE] :: Machine.dec code :: u :: us) := by
    have asQuoted : Machine.quoted q = q := List.filter_eq_self.mpr printable
    rw [bodyNack, asQuoted]
    change joinTokens ([[letterE], Machine.dec code] ++ _) = joinTokens ([[letterE], Machine.dec code] ++ u :: us)
    rw [joinTokens_append, joinTokens_append, joined]
    rfl
  rw [body]
  refine decodeLine_responseLine fno (by decide) (List.forall_mem_cons.mpr ⟨dec_no_semi code, noSemi⟩) ?_
  rw [decodeBody_letterE, decodeNegative, joined, List.dropLast_concat, unbracket_bracketed, parseU16_dec]

/-- Settles O23, row by row: each body is a join of tokens without `;` that `decodeBody` reads; the text of a NACK is
joined again from its tokens (`exists_tokens_of_text`). -/
theorem decodeLineOfEncodeLineIsTheResponse : Obligations.DecodeLineOfEncodeLineIsTheResponse := by
  intro fno i line wf enc
  obtain ⟨body, isBody, rfl⟩ := Option.map_eq_some_iff.mp enc
  cases i <;> cases isBody
  case ackV version =>
    have noSemi : semi ∉ version := fun mem => by
      have := List.all_eq_true.mp (Bool.and_eq_true_iff.mp wf).2 semi mem
      simp at this
    exact decodeLine_responseLine fno (commandLetter_no_semi .v) (by simpa using noSemi) rfl
  case ackW old new lock =>
    refine decodeLine_responseLine fno (commandLetter_no_semi .w) (by simp [decBool_no_semi]) ?_
    simp [decodeBody, letterE, commandLetter, commandOf]
  case ackS index old new =>
    refine decodeLine_responseLine fno (commandLetter_no_semi .s) (by simp [decBool_no_semi, dec_no_semi]) ?_
    simp [decodeBody, letterE, commandLetter, commandOf]
  case ackR index level =>
    refine decodeLine_responseLine fno (commandLetter_no_semi .r) (by simp [decBool_no_semi, dec_no_semi]) ?_
    simp [decodeBody, letterE, commandLetter, commandOf]
  case ackD diagnoses firstError executedTests =>
    refine decodeLine_responseLine fno (commandLetter_no_semi .d) (by simp [dec_no_semi]) ?_
    simp [decodeBody, letterE, commandLetter, commandOf]
  case ackT accepted =>
    refine decodeLine_responseLine fno (commandLetter_no_semi .t) (by simp [decBool_no_semi]) ?_
    simp [decodeBody, letterE, commandLetter, commandOf]
  case nackLine code quote =>
    exact decodeLine_bodyNack fno code (List.all_eq_true.mp (Bool.and_eq_true_iff.mp wf).2)
  case nackOverflow => exact decodeLine_responseLine fno (by decide) (by simp [dec_no_semi]) rfl

/-- Settles O24, by evaluating the decoders on the written bytes. -/
theorem specFramesDecodeAsWritten : Obligations.SpecFramesDecodeAsWritten :=
  ⟨rfl, rfl, rfl, by decide +kernel⟩

end Sys2Proof

namespace Sys2Proof.Machine

theorem nack_quoted (code : Word) (f : Bytes) (s : State) : nack code (quoted f) s = nack code f s := by
  have twice : quoted (quoted f) = quoted f := by simp [quoted]
  rw [nack_eq, nack_eq, bodyNack, bodyNack, twice]

theorem bodyNack_eq (code : Word) (f : Bytes) :
    bodyNack code f = [0x45, 0x3B] ++ dec code ++ [0x3B, 0x5B] ++ quoted f ++ [0x5D, 0x3B] := by
  simp [bodyNack, joinTokens, letterE, semi, lbracket, rbracket]

/-- Settles O26: `nack_eq` holds the frame, and quoting twice is quoting once. -/
theorem nackSendsQuotedLineOnly : Obligations.NackSendsQuotedLineOnly := by
  intro code f s l t
  have asOperation : exec (.nack code f) s = .next t := by
    rw [exec_nack, nack_eq, responseLine_eq, bodyNack_eq]
    simp [t, l, semi, lf]
  have asRow : exec (.nackLine code (quoted f)) s = exec (.nack code f) s :=
    congrArg Host.Outcome.next (nack_quoted code f s)
  exact ⟨asOperation, asRow.trans asOperation⟩

/-- Settles O27: both the row and the received terminator are `endResync`. -/
theorem overflowTerminatorSendsOneNack : Obligations.OverflowTerminatorSendsOneNack := by
  intro b s
  refine ⟨?_, fun idle resync terminator => ?_⟩
  · have row : exec .nackOverflow s = .next (endResync s) := rfl
    have body : bodyOverflow = [0x45, 0x3B, 0x38, 0x3B] := rfl
    rw [row, endResync_eq, responseLine_eq, body]
    simp [semi, lf]
  · have isTerm : isTerminator b = true := by rcases terminator with rfl | rfl <;> rfl
    simp [exec, execRx, execNackOverflow, receive, burstIdle, idle, resync, isTerm]

/-- Settles O28: each of the rows is `ack` of the body its encoder joins (`ack_eq`). -/
theorem positiveResponsesSendTheirLine : Obligations.PositiveResponsesSendTheirLine := by
  rintro i version a b c x y z s (rfl | rfl | rfl | rfl | rfl | rfl) <;> exact ⟨_, rfl, rfl⟩

end Sys2Proof.Machine
end

section
/-! SUPPORT. The operations run on their own: error store, watchdog core and self-test (41_error_store.md,
42_watchdog.md, 43_selftest.md), each by the equation that says what it writes. -/

namespace Sys2Proof.Machine

variable {s : State}

/-- Settles O6: the model's `isPrintable` is the statement's range. -/
theorem quotedKeepsPrintableBytes : Obligations.QuotedKeepsPrintableBytes := by
  intro f s
  have printable : isPrintable = fun b => decide (0x20 ≤ b.toNat ∧ b.toNat ≤ 0x7E) :=
    funext fun b => (Bool.decide_and _ _).symm
  have answer : exec (.quoted f) s = .next (s.withRet (.bytes (f.filter isPrintable))) := rfl
  rw [answer, printable]
  rfl

/-- Settles O7: `setError_eq` by the value of the latch; the two masks are ORed in by definition. -/
theorem settersLatchFirstErrorAndOrMasks : Obligations.SettersLatchFirstErrorAndOrMasks := by
  intro n s
  have latch : exec (.setError n) s = .next (setError n s) := rfl
  refine ⟨fun empty => ?_, fun held => ?_, rfl, rfl⟩
  · rw [latch, setError_eq, if_pos empty]
  · rw [latch, setError_eq, if_neg held]

theorem exec_watchdogSet (v : Word) (s : State) : exec (.watchdogSet v) s = .next (watchdogSet v s) := rfl

theorem exec_enterError (code : Option Word) (s : State) : exec (.enterError code) s = .next (enterError code s) := rfl

theorem watchdogSet_of_init {v : Word} (init : s.watchdog.state = .init) :
    watchdogSet v s =
      if v ≠ 0 then s.withWatchdog { state := .ok, counter := 60000, resetLockCounter := 30000 }
      else s.withWatchdog { s.watchdog with counter := 0 } := by
  rw [watchdogSet, init]
  rfl

theorem watchdogSet_of_ok {v : Word} (ok : s.watchdog.state = .ok) :
    watchdogSet v s =
      if v ≠ 0 then s.withWatchdog { s.watchdog with counter := 60000 } else enterError (some 0x1001) s := by
  rw [watchdogSet, ok]
  rfl

/-- Settles O9, by the state. -/
theorem watchdogSetFollowsTheTable : Obligations.WatchdogSetFollowsTheTable := by
  intro v s
  refine ⟨fun init nonzero => ?_, fun init zero => ?_, fun ok nonzero => ?_, fun ok zero => ?_, fun error => ?_⟩
  · rw [exec_watchdogSet, watchdogSet_of_init init, if_pos nonzero]
    rfl
  · rw [exec_watchdogSet, watchdogSet_of_init init, if_neg (not_not_intro zero)]
    rfl
  · rw [exec_watchdogSet, watchdogSet_of_ok ok, if_pos nonzero]
    rfl
  · rw [exec_watchdogSet, watchdogSet_of_ok ok, if_neg (not_not_intro zero), enterError_eq, Watchdog.enterError_eq]
    rfl
  · rw [exec_watchdogSet, watchdogSet_of_error v error]

/-- Settles O10: `enterError_eq`, and `forceError_eq` by whether the state is `Error`. -/
theorem faultEntryLatchesCodeAndStartsGrace : Obligations.FaultEntryLatchesCodeAndStartsGrace := by
  intro code s
  refine ⟨?_, fun other => ?_, fun error => ?_⟩
  · rw [exec_enterError, enterError_eq, Watchdog.enterError_eq]
  · rw [exec_forceError, forceError_eq, if_neg other]
  · rw [exec_forceError, forceError_eq, if_pos error]

theorem watchdogTick_of_init (init : s.watchdog.state = .init) : watchdogTick s = s := by
  rw [watchdogTick_eq, init]

theorem watchdogTick_of_ok (ok : s.watchdog.state = .ok) :
    watchdogTick s =
      if 1 < s.watchdog.counter then s.withWatchdog { s.watchdog with counter := s.watchdog.counter - 1 }
      else enterError (some (if s.watchdog.counter = 1 then 0x1000 else 0x1002)) s := by
  rw [watchdogTick_eq, ok]
  rfl

theorem watchdogTick_of_error (error : s.watchdog.state = .error) :
    watchdogTick s = s.withWatchdog { s.watchdog with resetLockCounter := s.watchdog.resetLockCounter - 1 } := by
  rw [watchdogTick_eq, error]
  rfl

/-- Settles O11, by the state, and in `Ok` by the counter's last value. -/
theorem watchdogTickCountsDown : Obligations.WatchdogTickCountsDown := by
  intro s
  refine ⟨fun ok more => ?_, fun ok one => ?_, fun ok zero => ?_, fun error => ?_, fun init => ?_⟩
  · rw [exec_watchdogTick, watchdogTick_of_ok ok, if_pos more]
    rfl
  · rw [exec_watchdogTick, watchdogTick_of_ok ok, if_neg (by omega), if_pos one, exec_enterError]
  · rw [exec_watchdogTick, watchdogTick_of_ok ok, if_neg (by omega), if_neg (by omega), exec_enterError]
  · rw [exec_watchdogTick, watchdogTick_of_error error]
    rfl
  · rw [exec_watchdogTick, watchdogTick_of_init init]

theorem running_eq (s : State) : running s = decide (s.watchdog.state = .ok) := beq_eq_decide _ _

theorem lockRequired_eq (s : State) : lockRequired s = decide (s.watchdog.resetLockCounter ≠ 0) :=
  Bool.eq_iff_iff.mpr (bne_iff_ne.trans decide_eq_true_iff.symm)

/-- Settles O12: the model's two tests, read as propositions. -/
theorem runningAndLockRequiredReadTheTriple : Obligations.RunningAndLockRequiredReadTheTriple := by
  intro s
  rw [← running_eq, ← lockRequired_eq]
  exact ⟨rfl, rfl⟩

theorem exec_sample (expected rb : Bool) (s : State) :
    exec (.sample expected rb) s =
      .next ((s.withSelfTest (sample expected rb s.selfTest).2).withRet
        (.sample (sample expected rb s.selfTest).1)) := rfl

/-- Settles O14: the three cases of `sample_eq`. -/
theorem sampleCountsConsecutiveMatches : Obligations.SampleCountsConsecutiveMatches := by
  intro expected rb s
  refine ⟨fun hit last => ?_, fun hit more => ?_, fun miss => ?_⟩
  · rw [exec_sample, sample_eq, if_pos ⟨hit, last⟩]
    rfl
  · rw [exec_sample, sample_eq, if_neg (by omega), if_pos hit]
    rfl
  · rw [exec_sample, sample_eq, if_neg (fun h => miss h.1), if_neg miss]
    rfl

theorem exec_fail (code : Word) (s : State) : exec (.fail code) s = .next (fail code s) := rfl

/-- Settles O19: `fail_eq` is the statement. -/
theorem failLatchesCodeAndForcesError : Obligations.FailLatchesCodeAndForcesError := by
  intro code s
  rw [exec_fail, fail_eq]

/-- Settles O20: the request by whether the test is in `Passed`; `enter` by definition. -/
theorem requestSelfTestAndEnterWriteTheirRegisters : Obligations.RequestSelfTestAndEnterWriteTheirRegisters := by
  intro target s
  have request : exec .requestSelfTest s = .next ((requestSelfTest s).2.withRet (.bool (requestSelfTest s).1)) := rfl
  refine ⟨fun passed => ?_, fun other => ?_, rfl⟩
  · rw [request, requestSelfTest, if_pos passed]
    rfl
  · rw [request, requestSelfTest, if_neg other]
    rfl

theorem selftestHandler_of_passed (rb : Bool) (passed : s.selfTest.testState = .passed) :
    selftestHandler rb s = handlePassed s := by
  rw [selftestHandler, passed]

/-- `Passed` (R173), the request aside: the interval's last tick fails the test. -/
theorem handlePassed_of_no_request (noFlag : s.selfTest.requestFlag = false) :
    handlePassed s =
      let u := s.withSelfTest
        { s.selfTest with
          remainingUntilNextTest := s.selfTest.remainingUntilNextTest - 1, confirmationFlag := true }
      if s.selfTest.remainingUntilNextTest - 1 = 0 then fail 0x0004 u else u := by
  have noRequest : ¬ (confirm s).selfTest.requestFlag = true := by simp [confirm, noFlag]
  rw [handlePassed, if_neg noRequest]
  rfl

/-- Settles O16, by the request flag and the interval's last tick. -/
theorem passedConfirmsAndCountsDown : Obligations.PassedConfirmsAndCountsDown := by
  intro rb s passed
  refine ⟨fun request => ?_, fun noFlag more => ?_, fun noFlag last => ?_⟩
  · have isRequest : (confirm s).selfTest.requestFlag = true := request
    rw [exec_selftestHandler, selftestHandler_of_passed rb passed, handlePassed, if_pos isRequest]
    rfl
  · rw [exec_selftestHandler, selftestHandler_of_passed rb passed, handlePassed_of_no_request noFlag, if_neg (by omega)]
    rfl
  · rw [exec_selftestHandler, selftestHandler_of_passed rb passed, handlePassed_of_no_request noFlag, if_pos (by omega),
      exec_fail, last]
    rfl

/-- `Initial` and `RepeatedExpectOff` are one handler (R172, R175), the mask and the code their own. -/
def expectLow (mask code : Word) (rb : Bool) (s : State) : State :=
  match sample false rb s.selfTest with
  | (.success, t) => passTest mask (s.withSelfTest t)
  | (.timeout, t) => fail code (s.withSelfTest t)
  | (.pending, t) => s.withSelfTest t

theorem selftestHandler_of_initial (rb : Bool) (initial : s.selfTest.testState = .initial) :
    selftestHandler rb s = expectLow s.params.testInitial 0x0001 rb s := by
  rw [selftestHandler, initial]
  rfl

theorem selftestHandler_of_expectOff (rb : Bool) (expectOff : s.selfTest.testState = .repeatedExpectOff) :
    selftestHandler rb s = expectLow s.params.testRepeated 0x0003 rb s := by
  rw [selftestHandler, expectOff]
  rfl

theorem selftestHandler_of_expectOn (rb : Bool) (expectOn : s.selfTest.testState = .repeatedExpectOn) :
    selftestHandler rb s = handleExpectOn rb s := by
  rw [selftestHandler, expectOn]

/-- Settles O15: both states are `expectLow`, and it branches on the answer of `sample`. -/
theorem expectLowStatesPassOrFail : Obligations.ExpectLowStatesPassOrFail := by
  intro rb s mask code state
  have handler : exec (.selftestHandler rb) s = .next (expectLow mask code rb s) := by
    rcases state with ⟨initial, rfl, rfl⟩ | ⟨expectOff, rfl, rfl⟩
    · rw [exec_selftestHandler, selftestHandler_of_initial rb initial]
    · rw [exec_selftestHandler, selftestHandler_of_expectOff rb expectOff]
  refine ⟨_, _, exec_sample false rb s, rfl, ?_⟩
  rw [handler, expectLow]
  rcases sample_cases false rb s.selfTest with ⟨t, answer, -, -, rfl⟩ | ⟨t, answer, -⟩ | ⟨t, answer, -⟩ <;> rw [answer]
  · exact ⟨fun _ => rfl, nofun, nofun⟩
  · exact ⟨nofun, fun _ => rfl, nofun⟩
  · exact ⟨nofun, nofun, fun _ => rfl⟩

/-- Settles O17: the handler confirms first and then branches on the answer of `sample`. -/
theorem repeatedExpectOnConfirmsAndExpectsHigh : Obligations.RepeatedExpectOnConfirmsAndExpectsHigh := by
  intro rb s expectOn
  refine ⟨_, _, exec_sample true rb (confirm s), rfl, ?_⟩
  rw [exec_selftestHandler, selftestHandler_of_expectOn rb expectOn, handleExpectOn]
  rcases sample_cases true rb (confirm s).selfTest with ⟨t, answer, -, -, rfl⟩ | ⟨t, answer, -⟩ | ⟨t, answer, -⟩ <;>
    simp only [answer]
  · exact ⟨fun _ => rfl, nofun, nofun⟩
  · exact ⟨nofun, fun _ => rfl, nofun⟩
  · exact ⟨nofun, nofun, fun _ => rfl⟩

end Sys2Proof.Machine
end

section
/-! SUPPORT. The requests `W`, `R` and `T` (47_commands.md R251, R253, R255) run on their own, and what any frame is
answered with (46_receiver.md section 3). -/

namespace Sys2Proof.Machine

variable {s t : State} {fno index value crc f : Bytes} {i v : Word}

theorem joinTokens_reqW (fno value crc : Bytes) :
    joinTokens [fno, [commandLetter .w], value, crc] =
      fno ++ [0x3B, 0x57, 0x3B] ++ value ++ [0x3B] ++ crc ++ [0x3B] := by
  simp [joinTokens, commandLetter, semi]

theorem joinTokens_reqW_covered (fno value : Bytes) :
    joinTokens [fno, [commandLetter .w], value] = fno ++ [0x3B, 0x57, 0x3B] ++ value ++ [0x3B] := by
  simp [joinTokens, commandLetter, semi]

theorem joinTokens_reqR (fno index crc : Bytes) :
    joinTokens [fno, [commandLetter .r], index, crc] =
      fno ++ [0x3B, 0x52, 0x3B] ++ index ++ [0x3B] ++ crc ++ [0x3B] := by
  simp [joinTokens, commandLetter, semi]

theorem joinTokens_reqR_covered (fno index : Bytes) :
    joinTokens [fno, [commandLetter .r], index] = fno ++ [0x3B, 0x52, 0x3B] ++ index ++ [0x3B] := by
  simp [joinTokens, commandLetter, semi]

theorem exec_reqW_of_checks_pass (number : parseU16 fno = some s.receiver.nextExpectedFrameNumber)
    (field : parseU16 value = some v)
    (right : parseU16 crc = some (crcWhole (joinTokens [fno, [commandLetter .w], value]))) :
    exec (.reqW fno value crc) s = .next (runW (joinTokens [fno, [commandLetter .w], value, crc]) [v] s) :=
  have fields : parseAll [value] = some [v] := by simp only [parseAll, field]
  congrArg Host.Outcome.next
    (checkFrame_of_checks_pass (covered := [fno, [commandLetter .w], value]) (runW _) number fields right)

theorem exec_reqR_of_checks_pass (number : parseU16 fno = some s.receiver.nextExpectedFrameNumber)
    (field : parseU16 index = some i)
    (right : parseU16 crc = some (crcWhole (joinTokens [fno, [commandLetter .r], index]))) :
    exec (.reqR fno index crc) s = .next (runR (joinTokens [fno, [commandLetter .r], index, crc]) [i] s) :=
  have fields : parseAll [index] = some [i] := by simp only [parseAll, field]
  congrArg Host.Outcome.next
    (checkFrame_of_checks_pass (covered := [fno, [commandLetter .r], index]) (runR _) number fields right)

theorem exec_reqT_of_checks_pass (number : parseU16 fno = some s.receiver.nextExpectedFrameNumber)
    (right : parseU16 crc = some (crcWhole (joinTokens [fno, [commandLetter .t]]))) :
    exec (.reqT fno crc) s = .next (commandT s) :=
  congrArg Host.Outcome.next
    (checkFrame_of_checks_pass (covered := [fno, [commandLetter .t]]) (payload := []) (args := []) (runT _) number rfl
      right)

theorem runW_of_gate_closed (closed : s.receiver.versionGate = false) :
    runW f [v] s = nack s.params.eInvalidStartup f s := by
  rw [runW, if_pos closed]
  rfl

theorem runW_of_value_large (opened : s.receiver.versionGate = true) (large : 1 < v.toNat) :
    runW f [v] s = nack s.params.eInvalidValue f s := by
  rw [runW, if_neg (by simp [opened]), if_pos large]
  rfl

theorem runW_of_valid (opened : s.receiver.versionGate = true) (small : v.toNat ≤ 1) :
    runW f [v] s = commandW v s := by
  rw [runW, if_neg (by simp [opened]), if_neg (by omega)]

theorem bodyW_eq (old new lock : Bool) :
    bodyW old new lock =
      [0x57, 0x3B, if old then 0x31 else 0x30, 0x3B, if new then 0x31 else 0x30, 0x3B,
        if lock then 0x31 else 0x30, 0x3B] := by
  simp [bodyW, joinTokens, commandLetter, semi, decBool_eq_singleton]

/-- Settles O33: checks 1 to 3 pass, and `runW` decides between the gate's NACK, the value's and `exec_W`. -/
theorem requestWSetsWatchdogBehindTheGate : Obligations.RequestWSetsWatchdogBehindTheGate := by
  intro fno value crc v s number field right
  rw [← joinTokens_reqW_covered] at right
  refine ⟨watchdogSet v s, exec_watchdogSet v s, ?_⟩
  rw [exec_reqW_of_checks_pass number field right, ← joinTokens_reqW]
  refine ⟨fun opened small => ?_, fun closed => ?_, fun opened large => ?_⟩
  · rw [runW_of_valid opened small, commandW_eq, bodyW_eq, running_eq, running_eq, lockRequired_eq]
    simp only [decide_eq_true_eq]
    generalize responseLine _ _ = line
    rw [watchdogSet_eq s v]
  · rw [runW_of_gate_closed closed]
    rfl
  · rw [runW_of_value_large opened large]
    rfl

/-- Settles O35: checks 1 to 3 pass, and `runR` decides between the read and the index's NACK. -/
theorem requestRReportsOneInput : Obligations.RequestRReportsOneInput := by
  intro fno index crc i s number field right
  rw [← joinTokens_reqR_covered] at right
  rw [exec_reqR_of_checks_pass number field right, ← joinTokens_reqR]
  refine ⟨fun exists_slot => ?_, fun large => ?_⟩
  · have body (level : Bool) :
        bodyR i level = [0x52, 0x3B] ++ dec i ++ [0x3B, if level then 0x31 else 0x30, 0x3B] := by
      simp [bodyR, joinTokens, commandLetter, semi, decBool_eq_singleton]
    rw [runR, dif_pos exists_slot, commandR_eq, BitVec.ofNat_toNat, BitVec.setWidth_eq, body]
    rfl
  · rw [runR, dif_neg (by omega)]
    rfl

/-- Settles O37: checks 1 to 3 pass, so `exec_T` runs (`commandT_eq`). -/
theorem requestTAsksForASelfTest : Obligations.RequestTAsksForASelfTest := by
  intro fno crc s number right
  have body (accepted : Bool) : bodyT accepted = [0x54, 0x3B, if accepted then 0x31 else 0x30, 0x3B] := by
    simp [bodyT, joinTokens, commandLetter, semi, decBool_eq_singleton]
  rw [exec_reqT_of_checks_pass number right, commandT_eq, body]
  simp only [decide_eq_true_eq]

/-- A positive answer: one line that starts with the frame number and a command's letter, and the number advances
(R234). -/
def Acknowledges (s t : State) : Prop :=
  ∃ (cmd : Command) (rest : Bytes),
    t.sent = s.sent ++ [dec s.receiver.nextExpectedFrameNumber ++ [0x3B, commandLetter cmd, 0x3B] ++ rest]
      ∧ t.receiver.nextExpectedFrameNumber = s.receiver.nextExpectedFrameNumber + 1

theorem responseLine_of_letter (n : Word) (letter : Byte) (body : Bytes) :
    ∃ rest, responseLine n (letter :: semi :: body) = dec n ++ [0x3B, letter, 0x3B] ++ rest :=
  ⟨body ++ dec (crcWhole (dec n ++ [semi] ++ letter :: semi :: body)) ++ [semi, lf], by
    rw [responseLine_eq]
    simp [semi]⟩

theorem acknowledges_of_sent {cmd : Command} {body : Bytes}
    (sent : t.sent = s.sent ++ [responseLine s.receiver.nextExpectedFrameNumber (commandLetter cmd :: semi :: body)])
    (number : t.receiver.nextExpectedFrameNumber = s.receiver.nextExpectedFrameNumber + 1) : Acknowledges s t := by
  obtain ⟨rest, line⟩ := responseLine_of_letter s.receiver.nextExpectedFrameNumber (commandLetter cmd) body
  exact ⟨cmd, rest, line ▸ sent, number⟩

/-- What a frame does is a NACK with one of the reasons of a frame, or it is acknowledged. -/
theorem FrameEffect.nack_or_acknowledges (h : FrameEffect f s t) :
    (∃ reason, reason ≠ .overflow ∧ t = nackFor reason f s) ∨ Acknowledges s t := by
  rcases h with nack | rfl | ⟨v, _, _, rfl⟩ | ⟨i, v, _, rfl⟩ | ⟨i, rfl⟩ | rfl | rfl
  · exact .inl nack
  · exact .inr (acknowledges_of_sent (cmd := .v) rfl rfl)
  · rw [commandW_eq]
    exact .inr (acknowledges_of_sent (cmd := .w) rfl rfl)
  · exact .inr (acknowledges_of_sent (cmd := .s) rfl rfl)
  · exact .inr (acknowledges_of_sent (cmd := .r) rfl rfl)
  · exact .inr (acknowledges_of_sent (cmd := .d) rfl rfl)
  · rw [commandT_eq]
    exact .inr (acknowledges_of_sent (cmd := .t) rfl rfl)

/-- Settles O31: a frame that is not NACKed decodes to a request and is acknowledged. -/
theorem everyFrameIsAckedOrChangesNothing : Obligations.EveryFrameIsAckedOrChangesNothing := by
  refine ⟨fun f s => ?_, fun _ => rfl⟩
  have nacked_or : (∃ reason, reason ≠ .overflow ∧ handleFrame f s = nackFor reason f s)
      ∨ Acknowledges s (handleFrame f s) ∧ ∃ i, decode f = .ok i := by
    rcases (handleFrame_effect s f).nack_or_acknowledges, handleFrame_nack_or_decoded s f with
      ⟨nack | ack, nack' | decoded⟩
    · exact .inl nack
    · exact .inl nack
    · exact .inl nack'
    · exact .inr ⟨ack, decoded⟩
  rcases nacked_or with ⟨reason, notOverflow, isNack⟩ | ⟨⟨cmd, rest, sent, number⟩, i, decoded⟩
  · obtain ⟨rest, line⟩ := responseLine_of_letter s.receiver.nextExpectedFrameNumber letterE
      (joinTokens [dec (s.params.nackCode reason), lbracket :: quoted f ++ [rbracket]])
    refine ⟨_, _, rest, exec_handleFrame f s, ?_, .inr ⟨s.params.nackCode reason,
      nackCode_mem s.params reason notOverflow, ?_, line, ?_⟩⟩
    · rw [isNack]
      rfl
    · rw [exec_handleFrame, isNack, exec_nack, nackFor_eq]
    · rw [isNack]
      rfl
  · exact ⟨_, _, rest, exec_handleFrame f s, sent,
      .inl ⟨i, cmd, decoded, exec_handleFrame_of_decode decoded s, rfl, number⟩⟩

end Sys2Proof.Machine
end

section
/-! SUPPORT. The receiver's event (46_receiver.md section 1): a data byte, a terminator, and what no received byte
changes. -/

namespace Sys2Proof.Machine

variable {s t : State} {f : Bytes} {b : Byte}

theorem burstIdle_eq_true_iff (s : State) : burstIdle s = true ↔ s.burst.phase = .idle := beq_iff_eq

theorem exec_rx_of_idle (idle : s.burst.phase = .idle) (b : Byte) : exec (.rx b) s = .next (receive b s) :=
  if_pos ((burstIdle_eq_true_iff s).mpr idle)

theorem isTerminator_iff (b : Byte) : isTerminator b = true ↔ b = 0x0A ∨ b = 0x00 := by
  rw [isTerminator, Bool.or_eq_true, decide_eq_true_iff, decide_eq_true_iff]
  rfl

theorem receive_of_data (data : ¬ isTerminator b = true) : receive b s = dataByte b s := if_neg data

theorem receive_of_terminator (terminator : isTerminator b = true) (resync : s.receiver.overflow = false) :
    receive b s = endFrame s := by
  rw [receive, if_pos terminator, resync]
  rfl

/-- Settles O38, by the branches of `dataByte`. -/
theorem dataByteIsStoredOrDropped : Obligations.DataByteIsStoredOrDropped := by
  intro b s idle notLf notNul
  have data : ¬ isTerminator b = true := fun h => by
    rcases (isTerminator_iff b).mp h with rfl | rfl
    · exact notLf rfl
    · exact notNul rfl
  rw [exec_rx_of_idle idle, receive_of_data data]
  refine ⟨fun collecting room => ?_, fun collecting full => ?_, fun resync => ?_⟩
  · have store :
        s.receiver.buf.setIfInBounds s.receiver.requestIndex b = s.receiver.buf.set s.receiver.requestIndex b := by
      ext k hk
      simp [Vector.getElem_setIfInBounds, Vector.getElem_set]
    rw [dataByte, if_neg (by simp [collecting]), if_neg (by exact room.ne), Receiver.push, store]
    rfl
  · rw [dataByte, if_neg (by simp [collecting]), if_pos (by exact full)]
    rfl
  · rw [dataByte, if_pos resync]

theorem step_of_pending {e : Event} {rest : List Event} (h : s.pending = e :: rest) :
    step s = exec e.toInstr (s.withPending rest) := by
  rw [step, h]

/-- Outside resync a terminator hands over the frame, and the buffer is empty when it is handled (R222). -/
theorem exec_rx_of_terminator (terminator : isTerminator b = true) (idle : s.burst.phase = .idle)
    (resync : s.receiver.overflow = false) :
    exec (.rx b) s = exec (.handleFrame s.receiver.frame) (s.withReceiver { s.receiver with requestIndex := 0 }) := by
  rw [exec_rx_of_idle idle, receive_of_terminator terminator resync]
  rfl

/-- Settles O39: the event taken changes nothing the receiver looks at, and a decoded frame is its request
(`exec_handleFrame_of_decode`). -/
theorem stepRunsTheFrameInTheBuffer : Obligations.StepRunsTheFrameInTheBuffer := by
  intro b s isTerm idle resync
  have terminator := (isTerminator_iff b).mpr isTerm
  refine ⟨exec_rx_of_terminator terminator idle resync, fun rest next => ?_⟩
  have handled : step s =
      exec (.handleFrame s.receiver.frame)
        ((s.withPending rest).withReceiver { s.receiver with requestIndex := 0 }) := by
    rw [step_of_pending next]
    exact exec_rx_of_terminator (s := s.withPending rest) terminator idle resync
  exact ⟨handled, fun i decoded => handled.trans (exec_handleFrame_of_decode decoded _)⟩

/-- The frame of the receiver: `t` differs from `s` in what commands write at most, and in the self-test registers by
`request_flag` alone, which moves in `Passed` only. -/
def SameButCommands (s t : State) : Prop :=
  t = { s with
      outputs := t.outputs, watchdog := t.watchdog, errors := t.errors, receiver := t.receiver, sent := t.sent
      selfTest := { s.selfTest with requestFlag := t.selfTest.requestFlag } }
    ∧ (s.selfTest.testState ≠ .passed → t.selfTest = s.selfTest)

theorem FrameEffect.sameButCommands (h : FrameEffect f s t) : SameButCommands s t := by
  rcases h with ⟨reason, _, rfl⟩ | rfl | ⟨v, _, _, rfl⟩ | ⟨i, v, _, rfl⟩ | ⟨i, rfl⟩ | rfl | rfl
  · exact ⟨rfl, fun _ => rfl⟩
  · exact ⟨rfl, fun _ => rfl⟩
  · rw [commandW_eq]
    exact ⟨rfl, fun _ => rfl⟩
  · exact ⟨rfl, fun _ => rfl⟩
  · exact ⟨rfl, fun _ => rfl⟩
  · exact ⟨rfl, fun _ => rfl⟩
  · rw [commandT_eq]
    exact ⟨rfl, fun other => by simp [other]⟩

theorem receive_sameButCommands (b : Byte) (s : State) : SameButCommands s (receive b s) := by
  rcases receive_cases s b with ⟨_, _, resync⟩ | ⟨_, _, frame⟩ | ⟨_, data⟩
  · rw [resync]
    exact ⟨rfl, fun _ => rfl⟩
  · obtain ⟨same, selfTest⟩ := frame.sameButCommands
    exact ⟨same, selfTest⟩
  · rw [data]
    exact ⟨rfl, fun _ => rfl⟩

/-- Settles O49: none of the fields named is among those `SameButCommands` excepts. -/
theorem receivedBytesMoveNoPin : Obligations.ReceivedBytesMoveNoPin := by
  intro b s t next
  have isReceive : t = receive b s := by
    simp only [exec, execRx] at next
    split at next
    · exact (Host.Outcome.next.inj next).symm
    · cases next
  obtain ⟨same, selfTest⟩ := isReceive ▸ receive_sameButCommands b s
  refine ⟨?_, ?_, ?_, ?_, ?_, ?_, ?_, ?_, selfTest⟩ <;> rw [same]

end Sys2Proof.Machine
end

section
/-! SUPPORT. One event, run or stopped (20_memory.md R68, 45_retrigger_burst.md R211, R215, R216), and `RESET`
(70_reset_and_hazards.md section 1). -/

namespace Sys2Proof.Machine

open Sys2Proof.Safety

variable {s t : State}

/-- Settles O40: `step_of_pending`, for each event. -/
theorem stepRunsTheOldestEvent : Obligations.StepRunsTheOldestEvent := by
  intro s
  refine ⟨fun empty => ?_, fun _ h => step_of_pending h, fun _ _ h => step_of_pending h, fun _ _ _ h => step_of_pending h,
    fun _ h => step_of_pending h, fun _ _ _ h => step_of_pending h⟩
  rw [step, empty]

theorem burstIdle_eq_false (busy : s.burst.phase ≠ .idle) : burstIdle s = false :=
  beq_eq_false_iff_ne.mpr busy

/-- Settles O42: each event's own test of the burst's phase. -/
theorem excludedEventsStopByName : Obligations.ExcludedEventsStopByName := by
  intro b rb tflag levels s
  refine ⟨fun busy => ?_, fun idle => ?_⟩
  · have notIdle := burstIdle_eq_false busy
    refine ⟨?_, ?_, ?_⟩ <;> simp [exec, execRx, execTick, execBurstStart, notIdle]
  · simp [exec, execBurstIter, idle]

theorem exec_burstStart_of_idle (idle : s.burst.phase = .idle) : exec .burstStart s = .next (burstStart s) :=
  if_pos ((burstIdle_eq_true_iff s).mpr idle)

theorem exec_burstIter_of_phaseA (rb tflag : Bool) (phase : s.burst.phase = .phaseA) :
    exec (.burstIter rb tflag) s = .next (burstIterA rb tflag s) := by
  simp only [exec, execBurstIter, phase]

theorem exec_burstIter_of_phaseB (rb tflag : Bool) (phase : s.burst.phase = .phaseB) :
    exec (.burstIter rb tflag) s = .next (burstIterB rb tflag s) := by
  simp only [exec, execBurstIter, phase]

theorem exec_event_of_enabled {e : Event} (h : enabled e s) : ∃ t, exec e.toInstr s = .next t := by
  cases e with
  | reset => exact ⟨_, rfl⟩
  | rx b => exact ⟨_, exec_rx_of_idle h b⟩
  | tick rb levels => exact ⟨_, exec_tick_of_idle rb levels s h⟩
  | burstStart => exact ⟨_, exec_burstStart_of_idle h⟩
  | burstIter rb tflag =>
    cases phase : s.burst.phase with
    | idle => exact absurd phase h
    | phaseA => exact ⟨_, exec_burstIter_of_phaseA rb tflag phase⟩
    | phaseB => exact ⟨_, exec_burstIter_of_phaseB rb tflag phase⟩

theorem exec_event_of_not_enabled {e : Event} (h : ¬ enabled e s) : ∃ r, exec e.toInstr s = .fault r := by
  have stops (b : Byte) (rb tflag : Bool) (levels : Vector Bool 4) := excludedEventsStopByName b rb tflag levels s
  cases e with
  | reset => exact absurd trivial h
  | rx b => exact ⟨_, ((stops b false false (Vector.replicate 4 false)).1 h).1⟩
  | tick rb levels => exact ⟨_, ((stops 0 rb false levels).1 h).2.1⟩
  | burstStart => exact ⟨_, ((stops 0 false false (Vector.replicate 4 false)).1 h).2.2⟩
  | burstIter rb tflag => exact ⟨_, (stops 0 rb tflag (Vector.replicate 4 false)).2 (not_not.mp h)⟩

theorem enabled_withPending (e : Event) (s : State) (rest : List Event) :
    enabled e (s.withPending rest) ↔ enabled e s := by
  cases e <;> rfl

/-- Settles O41: an enabled event has a next state and any other a fault. -/
theorem stepStopsOnlyOnExcludedEvents : Obligations.StepStopsOnlyOnExcludedEvents := by
  intro s
  cases pending : s.pending with
  | nil =>
    have idle : step s = .next s := by rw [step, pending]
    rw [idle]
    exact ⟨nofun, nofun, nofun⟩
  | cons e rest =>
    rw [step_of_pending pending]
    by_cases allowed : enabled e s
    · obtain ⟨t, next⟩ := exec_event_of_enabled ((enabled_withPending e s rest).mpr allowed)
      rw [next]
      refine ⟨nofun, nofun, ?_⟩
      rintro ⟨_, _, ⟨⟩, excluded⟩
      exact absurd allowed excluded
    · obtain ⟨r, fault⟩ := exec_event_of_not_enabled fun h => allowed ((enabled_withPending e s rest).mp h)
      rw [fault]
      exact ⟨nofun, fun _ => ⟨e, rest, rfl, allowed⟩, fun _ => ⟨r, rfl⟩⟩

/-- Settles O52: `resetBlock` is the state of the reset table, the ports' records and the parameters kept. -/
theorem resetGivesEveryItemItsResetValue : Obligations.ResetGivesEveryItemItsResetValue := by
  intro s
  refine ⟨resetBlock s, rfl, ?_⟩
  rw [resetBlock_eq]
  simp [State.resetWith, Config.stateTicksInit, Config.pollTimeoutTicks, Config.tickMs]

end Sys2Proof.Machine
end

section
/-! SUPPORT. The retrigger burst (45_retrigger_burst.md R211 to R215): its start and its two iterations, each as one
equation. -/

namespace Sys2Proof.Machine

variable (rb tflag : Bool) (s : State)

/-- Settles O50: `burstStart` writes the registers by definition. -/
theorem burstStartLoadsRegisters : Obligations.BurstStartLoadsRegisters := by
  intro s idle
  rw [exec_burstStart_of_idle idle]
  rfl

/-- The timer events left after an iteration was presented `tflag` (R214). -/
def Burst.timeoutAfter (tflag : Bool) (b : Burst) : Nat := if tflag then b.timeout - 1 else b.timeout

theorem pollTimer_eq :
    pollTimer tflag s = s.withBurst { s.burst with timeout := s.burst.timeoutAfter tflag, timerFlag := false } := by
  simp only [pollTimer, countDown_eq, Burst.timeoutAfter]

/-- The burst registers after an iteration of `PhaseA` (R212). -/
def Burst.afterA (rb tflag : Bool) (b : Burst) : Burst :=
  let low := if rb then b.low else b.low + 1
  { b with
    timeout := b.timeoutAfter tflag, low := low, timerFlag := false
    phase := if low = 5 then .phaseB else if b.timeoutAfter tflag = 0 then .idle else .phaseA
    result := if low ≠ 5 ∧ b.timeoutAfter tflag = 0 then .stopFailed else b.result }

/-- The burst registers after an iteration of `PhaseB` (R213). -/
def Burst.afterB (rb tflag : Bool) (b : Burst) : Burst :=
  let high := if rb then b.high + 1 else b.high
  { b with
    timeout := b.timeoutAfter tflag, high := high, timerFlag := false
    phase := if high = 500 ∨ b.timeoutAfter tflag = 0 then .idle else .phaseB
    result := if high = 500 then .passed else if b.timeoutAfter tflag = 0 then .retriggerFailed else b.result }

section
variable {rb tflag : Bool} {b : Burst}

/-- `PhaseA` goes on while neither the samples nor the timer events are complete. -/
theorem Burst.afterA_phase_eq_phaseA :
    (b.afterA rb tflag).phase = .phaseA ↔ (b.afterA rb tflag).low ≠ 5 ∧ (b.afterA rb tflag).timeout ≠ 0 := by
  simp only [Burst.afterA]
  split_ifs <;> simp [*]

theorem Burst.afterA_phase_eq_phaseB : (b.afterA rb tflag).phase = .phaseB ↔ (b.afterA rb tflag).low = 5 := by
  simp only [Burst.afterA]
  split_ifs <;> simp [*]

theorem Burst.afterB_phase_ne_phaseA : (b.afterB rb tflag).phase ≠ .phaseA := by
  simp only [Burst.afterB]
  split_ifs <;> simp

theorem Burst.afterB_phase_eq_phaseB :
    (b.afterB rb tflag).phase = .phaseB ↔ (b.afterB rb tflag).high ≠ 500 ∧ (b.afterB rb tflag).timeout ≠ 0 := by
  have isIte : (b.afterB rb tflag).phase =
      if (b.afterB rb tflag).high = 500 ∨ (b.afterB rb tflag).timeout = 0 then .idle else .phaseB := rfl
  rw [isIte, ite_eq_right_iff, ne_eq, ne_eq, ← not_or]
  exact imp_congr_right fun _ => iff_of_false nofun id

end

theorem burstIterA_eq (phase : s.burst.phase = .phaseA) :
    burstIterA rb tflag s =
      { s with
        burst := s.burst.afterA rb tflag
        pins := { s.pins with wdPin := false }
        gpio :=
          s.gpio ++ [.write .wd false, .read (.inp 0)]
            ++ (if (s.burst.afterA rb tflag).low ≠ 5 ∧ (s.burst.afterA rb tflag).timeout = 0 then [.write .wd false]
              else []) } := by
  have counted : (if rb = false then s.burst.low + 1 else s.burst.low) = if rb then s.burst.low else s.burst.low + 1 := by
    cases rb <;> rfl
  simp only [burstIterA, pollTimer_eq, gpioRead_eq, gpioWrite_eq, State.withBurst, Pins.write_wd, counted,
    Config.burstLowSamples, burstFinish, Burst.afterA]
  by_cases success : (if rb then s.burst.low else s.burst.low + 1) = 5
  · simp [success]
  · by_cases expired : s.burst.timeoutAfter tflag = 0
    · simp [success, expired]
    · simp [success, expired, phase]

theorem burstIterB_eq (phase : s.burst.phase = .phaseB) :
    burstIterB rb tflag s =
      { s with
        burst := s.burst.afterB rb tflag
        pins :=
          if s.params.edgePairs = 0 ∧ (s.burst.afterB rb tflag).phase = .phaseB then s.pins
          else { s.pins with wdPin := false }
        gpio :=
          s.gpio ++ (List.replicate s.params.edgePairs [.write .wd true, .write .wd false]).flatten
            ++ [.read (.inp 0)]
            ++ (if (s.burst.afterB rb tflag).high = 500 ∨ (s.burst.afterB rb tflag).timeout = 0 then [.write .wd false]
              else []) } := by
  simp only [burstIterB, pollTimer_eq, edgePairs_eq, gpioRead_eq, gpioWrite_eq, State.withBurst, Pins.write_wd,
    Config.burstHighSamples, burstFinish, Burst.afterB]
  by_cases edges : s.params.edgePairs = 0 <;> by_cases success : (if rb then s.burst.high + 1 else s.burst.high) = 500
  · simp [edges, success]
  · by_cases expired : s.burst.timeoutAfter tflag = 0
    · simp [edges, success, expired]
    · simp [edges, success, expired, phase]
  · simp [edges, success]
  · by_cases expired : s.burst.timeoutAfter tflag = 0
    · simp [edges, success, expired]
    · simp [edges, success, expired, phase]

/-- Settles O51, phase by phase: `burstIterA_eq` and, with an edge pair at least, `burstIterB_eq`. -/
theorem burstIterCountsAndFinishes : Obligations.BurstIterCountsAndFinishes := by
  rintro rb tflag s timeout low high rfl rfl rfl
  refine ⟨fun phase => ?_, fun phase edges => ?_⟩
  · rw [exec_burstIter_of_phaseA rb tflag phase, burstIterA_eq rb tflag s phase]
    rfl
  · rw [exec_burstIter_of_phaseB rb tflag phase, burstIterB_eq rb tflag s phase, if_neg fun noEdges => by omega]
    rfl

end Sys2Proof.Machine
end

section
/-! SUPPORT. What a tick leaves (44_cyclic_task.md): `trigger`'s registers, the edges of `LOCK` (R194, R195), the
blinking of `LED` (R198) and the order of all operations (R199). -/

namespace Sys2Proof.Machine

/-- Settles O43: the registers of a tick, one lemma each (Laws/Events). -/
theorem tickRunsTriggerAndDrivesRelay : Obligations.TickRunsTriggerAndDrivesRelay := by
  intro rb levels s idle
  exact ⟨_, (trigger rb s).1, _, exec_trigger rb s, rfl, exec_tick_of_idle rb levels s idle, tick_watchdog s rb levels,
    tick_selfTest s rb levels, tick_errors s rb levels, tick_highCycle s rb levels, tick_wdPin s rb levels,
    tick_inputs s rb levels, tick_outputs s rb levels, tick_receiver s rb levels, tick_burst s rb levels,
    tick_params s rb levels, tick_ret s rb levels, tick_pending s rb levels, tick_sent s rb levels⟩

variable (rb : Bool) (levels : Vector Bool 4) (s : State)

/-- The state that step 4 of a tick finds. -/
def beforeLock : State :=
  driveWatchdogPin (triggerStep rb (toggleHighCycle s)).1 (triggerStep rb (toggleHighCycle s)).2

/-- The state that step 7 of a tick finds. -/
def beforeLed : State := sampleInputs levels (driveOutputs (sequenceLock (beforeLock rb s)))

theorem tick_eq_driveLed : tick rb levels s = driveLed (beforeLed rb levels s) := rfl

theorem beforeLock_watchdog : (beforeLock rb s).watchdog = (trigger rb s).2.watchdog := by
  simp [beforeLock, triggerStep_eq]

theorem beforeLock_cyclic : (beforeLock rb s).cyclic = { s.cyclic with highCycle := !s.cyclic.highCycle } := by
  simp [beforeLock, triggerStep_eq]

theorem beforeLock_pins :
    (beforeLock rb s).pins = { s.pins with wdPin := (trigger rb s).1 && !s.cyclic.highCycle } := by
  simp [beforeLock, triggerStep_eq, trigger_pins]

theorem beforeLed_watchdog : (beforeLed rb levels s).watchdog = (tick rb levels s).watchdog := by
  rw [tick_eq_driveLed, driveLed_watchdog]

theorem beforeLed_ledTicks : (beforeLed rb levels s).cyclic.ledTicks = s.cyclic.ledTicks := by
  simp [beforeLed, beforeLock_cyclic]

theorem beforeLed_ledLevel : (beforeLed rb levels s).pins.ledLevel = s.pins.ledLevel := by
  simp [beforeLed, beforeLock_pins]

theorem tick_lockPinLocked :
    (tick rb levels s).cyclic.lockPinLocked = (sequenceLock (beforeLock rb s)).cyclic.lockPinLocked := by
  simp [tick_eq_driveLed, beforeLed]

theorem tick_lockPin : (tick rb levels s).pins.lockPin = (sequenceLock (beforeLock rb s)).pins.lockPin := by
  simp [tick_eq_driveLed, beforeLed]

theorem tick_lockPullUp :
    (tick rb levels s).pins.lockPullUp = (sequenceLock (beforeLock rb s)).pins.lockPullUp := by
  simp [tick_eq_driveLed, beforeLed]

/-- The `LOCK` pin over a tick: locked, released, or left alone, by the lock counter after `trigger`. -/
theorem tick_lock_cases :
    ((tick rb levels s).watchdog.resetLockCounter ≠ 0 ∧ s.cyclic.lockPinLocked = false
        ∧ (tick rb levels s).cyclic.lockPinLocked = true ∧ (tick rb levels s).pins.lockPin = .drivenHigh)
    ∨ ((tick rb levels s).watchdog.resetLockCounter = 0 ∧ s.cyclic.lockPinLocked = true
        ∧ (tick rb levels s).cyclic.lockPinLocked = false
        ∧ (s.pins.lockPin ≠ .hiZ →
            (tick rb levels s).pins.lockPin = .hiZ ∧ (tick rb levels s).pins.lockPullUp = false))
    ∨ (((tick rb levels s).watchdog.resetLockCounter ≠ 0 ↔ s.cyclic.lockPinLocked = true)
        ∧ (tick rb levels s).cyclic.lockPinLocked = s.cyclic.lockPinLocked
        ∧ (tick rb levels s).pins.lockPin = s.pins.lockPin
        ∧ (tick rb levels s).pins.lockPullUp = s.pins.lockPullUp) := by
  rw [tick_lockPinLocked, tick_lockPin, tick_lockPullUp, tick_watchdog, ← beforeLock_watchdog]
  have locked : (beforeLock rb s).cyclic.lockPinLocked = s.cyclic.lockPinLocked := by rw [beforeLock_cyclic]
  have pin : (beforeLock rb s).pins.lockPin = s.pins.lockPin := by rw [beforeLock_pins]
  have pullUp : (beforeLock rb s).pins.lockPullUp = s.pins.lockPullUp := by rw [beforeLock_pins]
  rw [← locked, ← pin, ← pullUp]
  rcases sequenceLock_cases (beforeLock rb s) with ⟨required, unlocked, h⟩ | ⟨released, locked, h⟩
      | ⟨noEdge, h⟩ <;> rw [h]
  · exact .inl ⟨required, unlocked, rfl, rfl⟩
  · refine .inr (.inl ⟨released, locked, rfl, fun driven => ?_⟩)
    simp only [Pins.lock_release _ driven, and_self]
  · exact .inr (.inr ⟨noEdge, rfl, rfl, rfl⟩)

/-- The operations a tick issues (R199). -/
theorem drop_tick_gpio :
    (tick rb levels s).gpio.drop s.gpio.length =
      [.read (.inp 0), .write .wd (tick rb levels s).pins.wdPin]
        ++ lockOps (tick rb levels s).watchdog.resetLockCounter s.cyclic.lockPinLocked
        ++ [0, 1, 2, 3, 4, 5, 6].map (fun i : Fin 7 => .write (.out i) (tick rb levels s).pins.outPin[i])
        ++ [.read (.inp 0), .read (.inp 1), .read (.inp 2), .read (.inp 3)]
        ++ ledOps (tick rb levels s).watchdog.state s.cyclic.ledTicks (tick rb levels s).pins.ledLevel := by
  conv_lhs => rw [tick_gpio, List.drop_left]

theorem lockOps_within_tick_gpio :
    lockOps (tick rb levels s).watchdog.resetLockCounter s.cyclic.lockPinLocked
      <:+: (tick rb levels s).gpio.drop s.gpio.length := by
  rw [drop_tick_gpio]
  simp only [List.append_assoc]
  exact ⟨_, _, by rw [List.append_assoc]⟩

/-- Only step 4 operates on `LOCK`. -/
theorem mem_lockOps_of_mem_tick_gpio {op : GpioOp} (onLock : op.pin = .lock)
    (mem : op ∈ (tick rb levels s).gpio.drop s.gpio.length) :
    op ∈ lockOps (tick rb levels s).watchdog.resetLockCounter s.cyclic.lockPinLocked := by
  rw [drop_tick_gpio] at mem
  simp only [List.mem_append] at mem
  rcases mem with (((relay | lock) | outputs) | inputs) | led
  · rcases List.mem_pair.mp relay with rfl | rfl <;> cases onLock
  · exact lock
  · obtain ⟨i, -, rfl⟩ := List.mem_map.mp outputs
    cases onLock
  · simp only [List.mem_cons, List.not_mem_nil, or_false] at inputs
    rcases inputs with rfl | rfl | rfl | rfl <;> cases onLock
  · rw [pin_of_mem_ledOps led] at onLock
    cases onLock

theorem lockOps_of_required {n : Nat} {locked : Bool} (required : n ≠ 0) (unlocked : locked = false) :
    lockOps n locked = [.mode .lock .output, .write .lock true] := if_pos ⟨required, unlocked⟩

theorem lockOps_of_released {n : Nat} {locked : Bool} (released : n = 0) (isLocked : locked = true) :
    lockOps n locked = [.write .lock false, .mode .lock .inputTriState] := by
  rw [lockOps, if_neg fun h => h.1 released, if_pos ⟨released, isLocked⟩]

theorem lockOps_of_no_edge {n : Nat} {locked : Bool} (noEdge : n ≠ 0 ↔ locked = true) : lockOps n locked = [] := by
  rw [lockOps, if_neg fun h => by simp [noEdge.mp h.1] at h, if_neg fun h => noEdge.mpr h.2 h.1]

/-- Settles O46: the three cases of `tick_lock_cases`, and their operations among the tick's. -/
theorem tickSequencesTheLockPin : Obligations.TickSequencesTheLockPin := by
  intro rb levels s idle
  have ops := lockOps_within_tick_gpio rb levels s
  refine ⟨_, exec_tick_of_idle rb levels s idle, fun required unlocked => ?_, fun released locked driven => ?_,
    fun noEdge => ?_⟩
  · rcases tick_lock_cases rb levels s with ⟨-, -, nowLocked, high⟩ | ⟨released, -⟩ | ⟨noEdge, -⟩
    · exact ⟨high, nowLocked, lockOps_of_required required unlocked ▸ ops⟩
    · exact absurd released required
    · simp [noEdge.mp required] at unlocked
  · rcases tick_lock_cases rb levels s with ⟨required, -⟩ | ⟨-, -, nowUnlocked, pin⟩ | ⟨noEdge, -⟩
    · exact absurd released required
    · obtain ⟨hiZ, pullUp⟩ := pin (by simp [driven])
      exact ⟨hiZ, pullUp, nowUnlocked, lockOps_of_released released locked ▸ ops⟩
    · exact absurd released (noEdge.mpr locked)
  · have notOnLock (op : GpioOp) (onLock : op.pin = .lock) :
        op ∉ (tick rb levels s).gpio.drop s.gpio.length := fun mem => by
      have := mem_lockOps_of_mem_tick_gpio rb levels s onLock mem
      rw [lockOps_of_no_edge noEdge] at this
      exact List.not_mem_nil this
    rcases tick_lock_cases rb levels s with ⟨required, unlocked, -⟩ | ⟨released, locked, -⟩ | ⟨-, locked, pin, pullUp⟩
    · simp [noEdge.mp required] at unlocked
    · exact absurd released (noEdge.mpr locked)
    · exact ⟨pin, pullUp, locked, fun _ => notOnLock _ rfl, fun _ => notOnLock _ rfl⟩

/-- The status LED over a tick (R198), by the state and the counter: re-asserted, toggled, or left. -/
theorem tick_led_cases :
    ((tick rb levels s).watchdog.state = .init ∧ (tick rb levels s).pins.ledLevel = true
        ∧ (tick rb levels s).cyclic.ledTicks = 0)
    ∨ ((tick rb levels s).watchdog.state ≠ .init ∧ ledPeriod (tick rb levels s) ≤ s.cyclic.ledTicks + 1
        ∧ (tick rb levels s).pins.ledLevel = !s.pins.ledLevel ∧ (tick rb levels s).cyclic.ledTicks = 0)
    ∨ ((tick rb levels s).watchdog.state ≠ .init ∧ s.cyclic.ledTicks + 1 < ledPeriod (tick rb levels s)
        ∧ (tick rb levels s).pins.ledLevel = s.pins.ledLevel
        ∧ (tick rb levels s).cyclic.ledTicks = s.cyclic.ledTicks + 1) := by
  have period : ledPeriod (tick rb levels s) = ledPeriod (beforeLed rb levels s) := by
    rw [ledPeriod, ledPeriod, beforeLed_watchdog]
  rw [period, ← beforeLed_watchdog, ← beforeLed_ledTicks rb levels s, ← beforeLed_ledLevel rb levels s, tick_eq_driveLed]
  rcases driveLed_cases (beforeLed rb levels s) with ⟨init, h⟩ | ⟨other, elapsed, h⟩ | ⟨other, running, h⟩ <;> rw [h]
  · exact .inl ⟨init, rfl, rfl⟩
  · exact .inr (.inl ⟨other, elapsed, rfl, rfl⟩)
  · exact .inr (.inr ⟨other, running, rfl, rfl⟩)

/-- Settles O47: the LED by `tick_led_cases`, the operations by `tick_gpio`. -/
theorem tickBlinksTheLed : Obligations.TickBlinksTheLed := by
  intro rb levels s idle
  refine ⟨_, exec_tick_of_idle rb levels s idle, fun init => ?_, fun period state => ?_, ?_⟩
  · rcases tick_led_cases rb levels s with ⟨-, led⟩ | ⟨other, -⟩ | ⟨other, -⟩
    · exact led
    · exact absurd init other
    · exact absurd init other
  · have isPeriod : ledPeriod (tick rb levels s) = period := by
      rcases state with ⟨ok, rfl⟩ | ⟨error, rfl⟩
      · exact if_pos ok
      · exact if_neg (by simp [error])
    rcases tick_led_cases rb levels s with ⟨init, -⟩ | ⟨-, elapsed, led⟩ | ⟨-, running, led⟩
    · rcases state with ⟨h, -⟩ | ⟨h, -⟩ <;> simp [init] at h
    · exact ⟨fun _ => led, fun h => by omega⟩
    · exact ⟨fun h => by omega, fun _ => led⟩
  · conv_lhs => rw [tick_gpio]
    simp only [← List.append_assoc]
    rfl

end Sys2Proof.Machine
end

section
/-! SUPPORT. The watchdog triple and the self-test as registers of their own: what a received byte and a call of
`trigger` make of them (42_watchdog.md, 43_selftest.md). -/

namespace Sys2Proof.Machine

/-- The triple after `watchdog.set` (R151). -/
def Watchdog.afterSet (v : Word) (w : Watchdog) : Watchdog :=
  match w.state with
  | .init => if v ≠ 0 then { state := .ok, counter := 60000, resetLockCounter := 30000 } else { w with counter := 0 }
  | .ok => if v ≠ 0 then { w with counter := 60000 } else w.enterError
  | .error => w

/-- The triple after `watchdog.tick` (R153). -/
def Watchdog.afterTick (w : Watchdog) : Watchdog :=
  match w.state with
  | .init => w
  | .ok => if 1 < w.counter then { w with counter := w.counter - 1 } else w.enterError
  | .error => { w with resetLockCounter := w.resetLockCounter - 1 }

section
variable {w : Watchdog} {v : Word}

theorem Watchdog.afterSet_of_init (init : w.state = .init) :
    w.afterSet v =
      if v ≠ 0 then { state := .ok, counter := 60000, resetLockCounter := 30000 } else { w with counter := 0 } := by
  cases w
  cases init
  rfl

theorem Watchdog.afterSet_of_ok (ok : w.state = .ok) :
    w.afterSet v = if v ≠ 0 then { w with counter := 60000 } else w.enterError := by
  cases w
  cases ok
  rfl

theorem Watchdog.afterSet_of_error (error : w.state = .error) : w.afterSet v = w := by
  rw [afterSet, error]

theorem Watchdog.afterTick_of_init (init : w.state = .init) : w.afterTick = w := by
  rw [afterTick, init]

theorem Watchdog.afterTick_of_ok (ok : w.state = .ok) :
    w.afterTick = if 1 < w.counter then { w with counter := w.counter - 1 } else w.enterError := by
  cases w
  cases ok
  rfl

theorem Watchdog.afterTick_of_error (error : w.state = .error) :
    w.afterTick = { w with resetLockCounter := w.resetLockCounter - 1 } := by
  cases w
  cases error
  rfl

end

variable {s t : State} {f : Bytes} {rb : Bool}

theorem watchdogSet_watchdog (v : Word) (s : State) : (watchdogSet v s).watchdog = s.watchdog.afterSet v := by
  cases state : s.watchdog.state with
  | init =>
    rw [watchdogSet_of_init state, Watchdog.afterSet_of_init state]
    split <;> rfl
  | ok =>
    rw [watchdogSet_of_ok state, Watchdog.afterSet_of_ok state]
    split
    · rfl
    · rw [enterError_watchdog]
  | error => rw [watchdogSet_of_error v state, Watchdog.afterSet_of_error state]

theorem watchdogTick_watchdog (s : State) : (watchdogTick s).watchdog = s.watchdog.afterTick := by
  cases state : s.watchdog.state with
  | init => rw [watchdogTick_of_init state, Watchdog.afterTick_of_init state]
  | ok =>
    rw [watchdogTick_of_ok state, Watchdog.afterTick_of_ok state]
    split
    · rfl
    · rw [enterError_watchdog]
  | error =>
    rw [watchdogTick_of_error state, Watchdog.afterTick_of_error state]
    rfl

/-- The self-test's handler leaves the triple or forces it into `Error` (R156). -/
theorem selftestHandler_watchdog_or_enterError (rb : Bool) (s : State) :
    (selftestHandler rb s).watchdog = s.watchdog ∨ (selftestHandler rb s).watchdog = s.watchdog.enterError := by
  rw [Watchdog.enterError_eq]
  exact (selftestHandler_watchdog s rb).imp_right fun ⟨_, _, forced⟩ => forced

/-- Of the six commands only `W` writes the triple (R251). -/
theorem FrameEffect.watchdog (h : FrameEffect f s t) :
    t.watchdog = s.watchdog ∨ ∃ v, t.watchdog = s.watchdog.afterSet v := by
  rcases h with ⟨reason, _, rfl⟩ | rfl | ⟨v, _, _, rfl⟩ | ⟨i, v, _, rfl⟩ | ⟨i, rfl⟩ | rfl | rfl
  · exact .inl (nackFor_watchdog reason f s)
  · exact .inl rfl
  · exact .inr ⟨v, by rw [commandW_eq, ← watchdogSet_watchdog]⟩
  · exact .inl rfl
  · exact .inl rfl
  · exact .inl rfl
  · exact .inl (by rw [commandT_eq])

theorem receive_watchdog (b : Byte) (s : State) :
    (receive b s).watchdog = s.watchdog ∨ ∃ v, (receive b s).watchdog = s.watchdog.afterSet v := by
  rcases receive_cases s b with ⟨_, _, resync⟩ | ⟨_, _, frame⟩ | ⟨_, data⟩
  · exact .inl (by rw [resync, endResync_eq])
  · exact frame.watchdog
  · exact .inl (by rw [data])

theorem receive_selfTest (b : Byte) (s : State) :
    (receive b s).selfTest = { s.selfTest with requestFlag := (receive b s).selfTest.requestFlag } := by
  conv_lhs => rw [(receive_sameButCommands b s).1]

/-- No command moves the cursor or ends resync: both are set before the frame is handled (R222). -/
theorem FrameEffect.cursor (h : FrameEffect f s t) :
    t.receiver.overflow = s.receiver.overflow ∧ t.receiver.requestIndex = s.receiver.requestIndex := by
  rcases h with ⟨reason, _, rfl⟩ | rfl | ⟨v, _, _, rfl⟩ | ⟨i, v, _, rfl⟩ | ⟨i, rfl⟩ | rfl | rfl
  · exact ⟨rfl, rfl⟩
  · exact ⟨rfl, rfl⟩
  · rw [commandW_eq]
    exact ⟨rfl, rfl⟩
  · exact ⟨rfl, rfl⟩
  · exact ⟨rfl, rfl⟩
  · exact ⟨rfl, rfl⟩
  · rw [commandT_eq]
    exact ⟨rfl, rfl⟩

/-- The cursor and the resync flag over a received byte (R221 to R223): emptied, kept, resync begun, or one byte more.
-/
theorem receive_cursor_cases (b : Byte) (s : State) :
    ((receive b s).receiver.overflow = false ∧ (receive b s).receiver.requestIndex = 0)
    ∨ ((receive b s).receiver.overflow = s.receiver.overflow
        ∧ (receive b s).receiver.requestIndex = s.receiver.requestIndex)
    ∨ ((receive b s).receiver.overflow = true ∧ (receive b s).receiver.requestIndex = 20)
    ∨ (s.receiver.requestIndex ≠ 20 ∧ (receive b s).receiver.overflow = false
        ∧ (receive b s).receiver.requestIndex = s.receiver.requestIndex + 1) := by
  rcases receive_cases s b with ⟨_, _, resync⟩ | ⟨_, collecting, frame⟩ | ⟨_, data⟩
  · rw [resync, endResync_eq]
    exact .inl ⟨rfl, rfl⟩
  · exact .inl ⟨frame.cursor.1.trans collecting, frame.cursor.2⟩
  · rw [data]
    dsimp only
    split_ifs with resync full
    · exact .inr (.inl ⟨rfl, rfl⟩)
    · exact .inr (.inr (.inl ⟨rfl, full⟩))
    · exact .inr (.inr (.inr ⟨full, (Bool.not_eq_true _).mp resync, rfl⟩))

/-- `trigger` consumes the confirmation and leaves the rest of the self-test registers as the handler did (R157). -/
theorem trigger_selfTest (rb : Bool) (s : State) :
    (trigger rb s).2.selfTest = { (selftestHandler rb s).selfTest with confirmationFlag := false } := by
  rw [trigger_eq_gate rb s _ rfl, State.withSelfTest_selfTest, watchdogTick_selfTest]

theorem trigger_watchdog_eq (rb : Bool) (s : State) :
    (trigger rb s).2.watchdog = (selftestHandler rb s).watchdog.afterTick := by
  rw [trigger_watchdog, watchdogTick_watchdog]

/-- The gate (R157, R158), read after the tick. -/
theorem trigger_permit (rb : Bool) (s : State) :
    (trigger rb s).1 = true ↔
      0 < (trigger rb s).2.watchdog.counter ∧ (selftestHandler rb s).selfTest.confirmationFlag = true := by
  rw [trigger_watchdog, ← watchdogTick_selfTest, trigger_eq_gate rb s _ rfl, Bool.and_eq_true, decide_eq_true_iff]

/-- A failed test has forced the watchdog, in the same call (R176, R177). -/
theorem selftestHandler_error_of_failed (failed : (selftestHandler rb s).selfTest.testState = .failed) :
    (selftestHandler rb s).watchdog.state = .error := by
  rcases selftestHandler_cases s rb with ⟨_, _, h⟩ | ⟨_, h⟩ | ⟨_, _, h⟩ | ⟨_, _, state, _, _, _, h⟩ | ⟨state, _, _, h⟩
      | ⟨_, _, _, _, _, _, _, _, _, h⟩ | ⟨_, h⟩ <;> rw [h] at failed ⊢
  · cases failed
  · cases failed
  · cases failed
  · have kept : s.selfTest.testState = .failed := failed
    simp [kept] at state
  · have kept : s.selfTest.testState = .failed := failed
    simp [kept] at state
  · exact forceError_watchdog_state _
  · exact forceError_watchdog_state _

/-- The test never returns to `Initial` (R170). -/
theorem selftestHandler_ne_initial (other : s.selfTest.testState ≠ .initial) :
    (selftestHandler rb s).selfTest.testState ≠ .initial := by
  rcases selftestHandler_cases s rb with ⟨_, _, h⟩ | ⟨_, h⟩ | ⟨_, _, h⟩ | ⟨_, _, _, _, _, _, h⟩ | ⟨_, _, _, h⟩
      | ⟨_, _, _, _, _, _, _, _, _, h⟩ | ⟨_, h⟩ <;> rw [h]
  · exact nofun
  · exact nofun
  · exact nofun
  · exact other
  · exact other
  · rw [fail_eq]
    exact nofun
  · rwa [forceError_selfTest]

/-- A state that expects LOW is left for `Passed` or `Failed`, or keeps its confirmation and has used a tick of its
window. -/
theorem expectLow_cases (mask code : Word) (rb : Bool) (s : State) :
    (expectLow mask code rb s).selfTest.testState = .passed
    ∨ (expectLow mask code rb s).selfTest.testState = .failed
    ∨ ((expectLow mask code rb s).selfTest.confirmationFlag = s.selfTest.confirmationFlag
        ∧ 1 < s.selfTest.pollingTimeout
        ∧ (expectLow mask code rb s).selfTest.pollingTimeout = s.selfTest.pollingTimeout - 1) := by
  unfold expectLow
  rcases sample_cases false rb s.selfTest with ⟨t, answer, -⟩ | ⟨t, answer, -⟩ | ⟨t, answer, more, rfl, -⟩ <;> rw [answer]
  · exact .inl rfl
  · refine .inr (.inl ?_)
    dsimp only
    rw [fail_eq]
  · exact .inr (.inr ⟨rfl, more, rfl⟩)

end Sys2Proof.Machine
end

section
/-! SUPPORT. The state invariants (10_state.md R48), part by part: the triple with the self-test's state, the cursor,
the `LOCK` pin; and what they give for the relay pin (42_watchdog.md section 4). -/

namespace Sys2Proof.Safety

open Sys2Proof.Machine

variable {w : Watchdog} {test : TestState} {s t : State} {rb : Bool}

/-- Invariants (a) to (d): the triple, and `Error` where the test has failed. -/
def GuardsSound (w : Watchdog) (test : TestState) : Prop :=
  (w.state = .ok ↔ w.counter > 0)
  ∧ (w.state = .init → w.counter = 0 ∧ w.resetLockCounter = 0)
  ∧ (w.state = .ok → w.resetLockCounter = 30000)
  ∧ (test = .failed → w.state = .error)

/-- Invariant (f) and the cursor's range. -/
def CursorSound (r : Receiver) : Prop :=
  (r.overflow = true → r.requestIndex = 20) ∧ r.requestIndex ≤ 20

/-- Invariant (g). -/
def LockSound (locked : Bool) (pin : LockPin) : Prop :=
  (locked = true ↔ pin = .drivenHigh) ∧ pin ≠ .drivenLow

theorem stateInvariant_iff :
    StateInvariant s ↔
      GuardsSound s.watchdog s.selfTest.testState ∧ s.selfTest.confirmationFlag = false ∧ CursorSound s.receiver
        ∧ LockSound s.cyclic.lockPinLocked s.pins.lockPin := by
  simp only [StateInvariant, GuardsSound, CursorSound, LockSound, and_assoc]

theorem guardsSound_enterError (w : Watchdog) (test : TestState) : GuardsSound w.enterError test := by
  rw [Watchdog.enterError_eq]
  exact ⟨⟨nofun, nofun⟩, nofun, nofun, fun _ => rfl⟩

/-- In `Ok`, all of (a) to (d) is a counter that runs, the full grace period and a test that has not failed. -/
theorem guardsSound_of_ok (ok : w.state = .ok) (counter : 0 < w.counter) (lock : w.resetLockCounter = 30000)
    (test_ok : test ≠ .failed) : GuardsSound w test :=
  ⟨⟨fun _ => counter, fun _ => ok⟩, fun init => by simp [ok] at init, fun _ => lock, fun failed => absurd failed test_ok⟩

theorem GuardsSound.test_ne_failed (h : GuardsSound w test) (alive : w.state ≠ .error) : test ≠ .failed := by
  obtain ⟨-, -, -, failed⟩ := h
  exact fun isFailed => alive (failed isFailed)

theorem GuardsSound.afterSet (h : GuardsSound w test) (v : Word) : GuardsSound (w.afterSet v) test := by
  obtain ⟨armed, init, lock, failed⟩ := id h
  cases state : w.state with
  | init =>
    rw [Watchdog.afterSet_of_init state]
    split_ifs with nonzero
    · exact guardsSound_of_ok rfl (by decide) rfl (h.test_ne_failed (by simp [state]))
    · obtain ⟨counter, -⟩ := init state
      rwa [← counter]
  | ok =>
    rw [Watchdog.afterSet_of_ok state]
    split_ifs with nonzero
    · exact guardsSound_of_ok state (Nat.succ_pos _) (lock state) (h.test_ne_failed (by simp [state]))
    · exact guardsSound_enterError w test
  | error => rwa [Watchdog.afterSet_of_error state]

theorem GuardsSound.afterTick (h : GuardsSound w test) : GuardsSound w.afterTick test := by
  obtain ⟨armed, init, lock, failed⟩ := id h
  cases state : w.state with
  | init => rwa [Watchdog.afterTick_of_init state]
  | ok =>
    rw [Watchdog.afterTick_of_ok state]
    split_ifs with more
    · exact guardsSound_of_ok state (Nat.sub_pos_of_lt more) (lock state) (h.test_ne_failed (by simp [state]))
    · exact guardsSound_enterError w test
  | error =>
    rw [Watchdog.afterTick_of_error state]
    exact ⟨armed, fun isInit => by simp [state] at isInit, fun ok => by simp [state] at ok, failed⟩

theorem GuardsSound.selftestHandler (h : GuardsSound s.watchdog s.selfTest.testState) (rb : Bool) :
    GuardsSound (selftestHandler rb s).watchdog (selftestHandler rb s).selfTest.testState := by
  rcases selftestHandler_watchdog_or_enterError rb s with kept | forced
  · obtain ⟨armed, init, lock, -⟩ := h
    refine ⟨?_, ?_, ?_, selftestHandler_error_of_failed⟩ <;> rwa [kept]
  · rw [forced]
    exact guardsSound_enterError _ _

theorem GuardsSound.trigger (h : GuardsSound s.watchdog s.selfTest.testState) (rb : Bool) :
    GuardsSound (trigger rb s).2.watchdog (trigger rb s).2.selfTest.testState := by
  rw [trigger_watchdog_eq, trigger_selfTest]
  exact (h.selftestHandler rb).afterTick

theorem GuardsSound.receive (h : GuardsSound s.watchdog s.selfTest.testState) (b : Byte) :
    GuardsSound (receive b s).watchdog (receive b s).selfTest.testState := by
  rw [receive_testState]
  rcases receive_watchdog b s with kept | ⟨v, set⟩
  · rwa [kept]
  · rw [set]
    exact h.afterSet v

theorem CursorSound.receive (h : CursorSound s.receiver) (b : Byte) : CursorSound (receive b s).receiver := by
  obtain ⟨resync, bound⟩ := h
  rcases receive_cursor_cases b s with ⟨ends, index⟩ | ⟨flag, index⟩ | ⟨-, index⟩ | ⟨room, collecting, index⟩
  · exact ⟨by simp [ends], by omega⟩
  · exact ⟨by rwa [flag, index], by omega⟩
  · exact ⟨fun _ => index, by omega⟩
  · exact ⟨by simp [collecting], by omega⟩

theorem LockSound.tick (h : LockSound s.cyclic.lockPinLocked s.pins.lockPin) (rb : Bool) (levels : Vector Bool 4) :
    LockSound (tick rb levels s).cyclic.lockPinLocked (tick rb levels s).pins.lockPin := by
  rcases tick_lock_cases rb levels s with ⟨-, -, locked, pin⟩ | ⟨-, wasLocked, unlocked, released⟩ | ⟨-, locked, pin, -⟩
  · simp [LockSound, locked, pin]
  · obtain ⟨hiZ, -⟩ := released (by simp [h.1.mp wasLocked])
    simp [LockSound, unlocked, hiZ]
  · rwa [locked, pin]

theorem stateInvariant_resetBlock (s : State) : StateInvariant (resetBlock s) := by
  rw [resetBlock_eq]
  simp [StateInvariant, State.resetWith]

theorem StateInvariant.receive (h : StateInvariant s) (b : Byte) : StateInvariant (receive b s) := by
  obtain ⟨guards, consumed, cursor, lock⟩ := stateInvariant_iff.mp h
  have frame := (receive_sameButCommands b s).1
  refine stateInvariant_iff.mpr ⟨guards.receive b, ?_, cursor.receive b, ?_⟩
  · rw [receive_selfTest]
    exact consumed
  · rw [frame]
    exact lock

theorem StateInvariant.tick (h : StateInvariant s) (rb : Bool) (levels : Vector Bool 4) :
    StateInvariant (tick rb levels s) := by
  obtain ⟨guards, -, cursor, lock⟩ := stateInvariant_iff.mp h
  refine stateInvariant_iff.mpr ⟨?_, ?_, ?_, lock.tick rb levels⟩
  · rw [tick_watchdog, tick_selfTest]
    exact guards.trigger rb
  · rw [tick_selfTest, trigger_selfTest]
  · rwa [tick_receiver]

theorem StateInvariant.of_sameButBurst (h : StateInvariant s) (same : SameButBurst s t) : StateInvariant t := by
  rw [same]
  exact h

/-- Settles O53, event by event. -/
theorem everyStepKeepsStateInvariant : Obligations.EveryStepKeepsStateInvariant := by
  intro s t h hstep
  have popped (rest : List Event) : StateInvariant (s.withPending rest) := h
  rcases step_cases s hstep with ⟨_, rfl⟩ | ⟨rest, _, rfl⟩ | ⟨b, rest, _, _, rfl⟩ | ⟨rb, levels, rest, _, _, rfl⟩
      | ⟨rest, _, _, rfl⟩ | ⟨rb, tflag, rest, _, _, rfl⟩ | ⟨rb, tflag, rest, _, _, rfl⟩
  · exact h
  · exact stateInvariant_resetBlock _
  · exact (popped rest).receive b
  · exact (popped rest).tick rb levels
  · exact (popped rest).of_sameButBurst (burstStart_sameButBurst _)
  · exact (popped rest).of_sameButBurst (burstIterA_sameButBurst _ rb tflag)
  · exact (popped rest).of_sameButBurst (burstIterB_sameButBurst _ rb tflag)

/-- `watchdog.tick` arms nothing: `Ok` after it is `Ok` before it (R153). -/
theorem ok_of_afterTick_ok (ok : w.afterTick.state = .ok) : w.state = .ok := by
  cases state : w.state with
  | init => rwa [Watchdog.afterTick_of_init state, state] at ok
  | ok => rfl
  | error => rwa [Watchdog.afterTick_of_error state, state] at ok

/-- Nor does the handler, which can only force `Error` (R156). -/
theorem ok_of_selftestHandler_ok (ok : (selftestHandler rb s).watchdog.state = .ok) : s.watchdog.state = .ok := by
  rcases selftestHandler_watchdog_or_enterError rb s with kept | forced
  · rwa [kept] at ok
  · rw [forced] at ok
    cases ok

/-- Without a confirmation before it, a state that expects LOW confirms only by leaving (R172, R175). -/
theorem expectLow_left_of_confirmed {mask code : Word} (consumed : s.selfTest.confirmationFlag = false)
    (confirmed : (expectLow mask code rb s).selfTest.confirmationFlag = true) :
    (expectLow mask code rb s).selfTest.testState = .passed
    ∨ (expectLow mask code rb s).selfTest.testState = .failed := by
  rcases expectLow_cases mask code rb s with passed | failed | ⟨kept, -⟩
  · exact .inl passed
  · exact .inr failed
  · rw [kept, consumed] at confirmed
    cases confirmed

theorem ne_initial_of_confirmed (consumed : s.selfTest.confirmationFlag = false)
    (confirmed : (selftestHandler rb s).selfTest.confirmationFlag = true) :
    (selftestHandler rb s).selfTest.testState ≠ .initial := by
  by_cases initial : s.selfTest.testState = .initial
  · rw [selftestHandler_of_initial rb initial] at confirmed ⊢
    rcases expectLow_left_of_confirmed consumed confirmed with h | h <;> rw [h] <;> exact nofun
  · exact selftestHandler_ne_initial initial

theorem expectOff_left_of_confirmed (consumed : s.selfTest.confirmationFlag = false)
    (confirmed : (selftestHandler rb s).selfTest.confirmationFlag = true) :
    ¬ (s.selfTest.testState = .repeatedExpectOff
      ∧ (selftestHandler rb s).selfTest.testState = .repeatedExpectOff) := by
  rintro ⟨before, after⟩
  rw [selftestHandler_of_expectOff rb before] at confirmed after
  rcases expectLow_left_of_confirmed consumed confirmed with h | h <;> cases h.symm.trans after

/-- Settles O48: WD is HIGH only if the gate of this tick is open (`trigger_permit`); the rest is read off the
invariants after `trigger` and off the handler that confirmed. -/
theorem relayPinHighOnlyAfterApproval : Obligations.RelayPinHighOnlyAfterApproval := by
  intro rb levels s t inv next high
  have isTick : t = tick rb levels s := by
    simp only [exec, execTick] at next
    split at next
    · exact (Host.Outcome.next.inj next).symm
    · cases next
  subst isTick
  obtain ⟨guards, consumed, -, -⟩ := stateInvariant_iff.mp inv
  rw [tick_wdPin, Bool.and_eq_true] at high
  obtain ⟨permit, highHalf⟩ := high
  obtain ⟨counter, confirmed⟩ := (trigger_permit rb s).mp permit
  have after : GuardsSound (trigger rb s).2.watchdog (trigger rb s).2.selfTest.testState := guards.trigger rb
  have ok : (trigger rb s).2.watchdog.state = .ok := after.1.mpr counter
  have okBefore : s.watchdog.state = .ok :=
    ok_of_selftestHandler_ok (ok_of_afterTick_ok (trigger_watchdog_eq rb s ▸ ok))
  have test : (tick rb levels s).selfTest.testState = (selftestHandler rb s).selfTest.testState := by
    rw [tick_selfTest, trigger_selfTest]
  refine ⟨⟨_, _, exec_trigger rb s, by rw [permit]; rfl, exec_selftestHandler rb s, confirmed⟩, okBefore,
    ?_, ?_, ?_, ?_, ?_, ?_⟩
  · rwa [tick_watchdog]
  · rwa [tick_watchdog]
  · rwa [tick_highCycle]
  · rw [test]
    exact ne_initial_of_confirmed consumed confirmed
  · rw [tick_selfTest]
    exact after.test_ne_failed (by simp [ok])
  · rw [test]
    exact expectOff_left_of_confirmed consumed confirmed

end Sys2Proof.Safety
end

section
/-! SUPPORT. The ranges of the counters (10_state.md R26 to R46), component by component. -/

namespace Sys2Proof.Safety

open Sys2Proof.Machine

variable {w : Watchdog} {x : SelfTest} {b : Burst} {s t : State} {rb tflag : Bool}

def WatchdogInRange (w : Watchdog) : Prop := w.counter ≤ 60000 ∧ w.resetLockCounter ≤ 30000

def SelfTestInRange (x : SelfTest) : Prop :=
  (1 ≤ x.stateTicks ∧ x.stateTicks ≤ 5)
  ∧ x.pollingTimeout ≤ 10000
  ∧ (x.testState ≠ .failed → 1 ≤ x.pollingTimeout)
  ∧ x.remainingUntilNextTest ≤ 360000000
  ∧ (x.testState = .passed → 1 ≤ x.remainingUntilNextTest)

def BurstInRange (b : Burst) : Prop :=
  b.timeout ≤ 10000
  ∧ (b.phase = .phaseA → b.low < 5 ∧ b.high = 0 ∧ 1 ≤ b.timeout)
  ∧ (b.phase = .phaseB → b.low = 5 ∧ b.high < 500)
  ∧ b.low ≤ 5
  ∧ b.high ≤ 500
  ∧ b.timerFlag = false

/-- A released `LOCK` pin has its pull-up off, a locked one is HIGH (log 9). -/
def LockInRange (locked : Bool) (pin : LockPin) (pullUp : Bool) : Prop :=
  (locked = false → pin = .hiZ ∧ pullUp = false) ∧ (locked = true → pin = .drivenHigh)

theorem rangeInvariant_iff :
    RangeInvariant s ↔
      WatchdogInRange s.watchdog ∧ SelfTestInRange s.selfTest ∧ s.receiver.requestIndex ≤ 20
        ∧ s.cyclic.ledTicks < 2000 ∧ BurstInRange s.burst
        ∧ LockInRange s.cyclic.lockPinLocked s.pins.lockPin s.pins.lockPullUp := by
  simp only [RangeInvariant, WatchdogInRange, SelfTestInRange, BurstInRange, LockInRange, and_assoc]

theorem WatchdogInRange.enterError (h : WatchdogInRange w) : WatchdogInRange w.enterError := by
  rw [Watchdog.enterError_eq]
  exact ⟨Nat.zero_le _, (Nat.sub_le _ 1).trans h.2⟩

theorem WatchdogInRange.afterSet (h : WatchdogInRange w) (v : Word) : WatchdogInRange (w.afterSet v) := by
  cases state : w.state with
  | init =>
    rw [Watchdog.afterSet_of_init state]
    split_ifs
    · exact ⟨le_rfl, le_rfl⟩
    · exact ⟨Nat.zero_le _, h.2⟩
  | ok =>
    rw [Watchdog.afterSet_of_ok state]
    split_ifs
    · exact ⟨le_rfl, h.2⟩
    · exact h.enterError
  | error => rwa [Watchdog.afterSet_of_error state]

theorem WatchdogInRange.afterTick (h : WatchdogInRange w) : WatchdogInRange w.afterTick := by
  cases state : w.state with
  | init => rwa [Watchdog.afterTick_of_init state]
  | ok =>
    rw [Watchdog.afterTick_of_ok state]
    split_ifs
    · exact ⟨(Nat.sub_le _ 1).trans h.1, h.2⟩
    · exact h.enterError
  | error =>
    rw [Watchdog.afterTick_of_error state]
    exact ⟨h.1, (Nat.sub_le _ 1).trans h.2⟩

theorem WatchdogInRange.trigger (h : WatchdogInRange s.watchdog) (rb : Bool) :
    WatchdogInRange (trigger rb s).2.watchdog := by
  rw [trigger_watchdog_eq]
  rcases selftestHandler_watchdog_or_enterError rb s with kept | forced
  · exact (kept ▸ h).afterTick
  · exact (forced ▸ h.enterError).afterTick

theorem WatchdogInRange.receive (h : WatchdogInRange s.watchdog) (c : Byte) :
    WatchdogInRange (receive c s).watchdog := by
  rcases receive_watchdog c s with kept | ⟨v, set⟩
  · rwa [kept]
  · rw [set]
    exact h.afterSet v

/-- What `enter` loads is in range, the interval aside (R179). -/
theorem selfTestInRange_enter (target : TestState) (x : SelfTest) (other : target ≠ .passed)
    (interval : x.remainingUntilNextTest ≤ 360000000) : SelfTestInRange (enter target x) :=
  ⟨⟨(by decide : 1 ≤ 5), le_rfl⟩, le_rfl, fun _ => (by decide : 1 ≤ 10000), interval, fun passed => absurd passed other⟩

/-- In `Failed` only the upper bounds and the window are claimed (log 11). -/
theorem selfTestInRange_of_failed (failed : x.testState = .failed) (window : 1 ≤ x.stateTicks ∧ x.stateTicks ≤ 5)
    (polling : x.pollingTimeout ≤ 10000) (interval : x.remainingUntilNextTest ≤ 360000000) : SelfTestInRange x :=
  ⟨window, polling, fun other => absurd failed other, interval, fun passed => by simp [failed] at passed⟩

theorem SelfTestInRange.selftestHandler (h : SelfTestInRange s.selfTest) (rb : Bool) :
    SelfTestInRange (selftestHandler rb s).selfTest := by
  obtain ⟨window, polling, running, interval, counting⟩ := id h
  rcases selftestHandler_cases s rb with ⟨_, _, passes⟩ | ⟨_, halfDone⟩ | ⟨_, _, starts⟩
      | ⟨k, _, state, isK, more, _, goesOn⟩
      | ⟨state, ne1, ne0, counts⟩ | ⟨_, k, _, _, _, _, isK, _, _, fails⟩ | ⟨_, forces⟩
  · rw [passes, passTest_eq]
    exact ⟨⟨(by decide : 1 ≤ 5), le_rfl⟩, le_rfl, fun _ => (by decide : 1 ≤ 10000), le_rfl,
      fun _ => (by decide : 1 ≤ 360000000)⟩
  · rw [halfDone]
    exact selfTestInRange_enter _ _ nofun interval
  · rw [starts]
    exact selfTestInRange_enter _ _ nofun interval
  · rw [goesOn]
    refine ⟨?_, (Nat.sub_le _ 1).trans polling, fun _ => Nat.le_sub_one_of_lt more, interval, counting⟩
    change 1 ≤ k ∧ k ≤ 5
    omega
  · rw [counts]
    refine ⟨window, polling, running, (Nat.sub_le _ 1).trans interval, fun _ => ?_⟩
    change 1 ≤ s.selfTest.remainingUntilNextTest - 1
    omega
  · rw [fails, fail_eq]
    refine selfTestInRange_of_failed rfl ?_ (le_trans ‹_› polling) (le_trans ‹_› interval)
    change 1 ≤ k ∧ k ≤ 5
    omega
  · rwa [forces, forceError_selfTest]

theorem SelfTestInRange.trigger (h : SelfTestInRange s.selfTest) (rb : Bool) :
    SelfTestInRange (trigger rb s).2.selfTest := by
  rw [trigger_selfTest]
  exact h.selftestHandler rb

theorem SelfTestInRange.receive (h : SelfTestInRange s.selfTest) (c : Byte) : SelfTestInRange (receive c s).selfTest := by
  rw [receive_selfTest]
  exact h

theorem requestIndex_receive_le (h : s.receiver.requestIndex ≤ 20) (c : Byte) :
    (receive c s).receiver.requestIndex ≤ 20 := by
  rcases receive_cursor_cases c s with ⟨-, index⟩ | ⟨-, index⟩ | ⟨-, index⟩ | ⟨room, -, index⟩ <;> omega

theorem ledPeriod_le (s : State) : ledPeriod s ≤ 2000 := by
  unfold ledPeriod
  split_ifs <;> decide

theorem ledTicks_tick_lt (rb : Bool) (levels : Vector Bool 4) (s : State) :
    (tick rb levels s).cyclic.ledTicks < 2000 := by
  have := ledPeriod_le (tick rb levels s)
  rcases tick_led_cases rb levels s with ⟨-, -, led⟩ | ⟨-, -, -, led⟩ | ⟨-, running, -, led⟩ <;> omega

theorem LockInRange.tick (h : LockInRange s.cyclic.lockPinLocked s.pins.lockPin s.pins.lockPullUp) (rb : Bool)
    (levels : Vector Bool 4) :
    LockInRange (tick rb levels s).cyclic.lockPinLocked (tick rb levels s).pins.lockPin
      (tick rb levels s).pins.lockPullUp := by
  rcases tick_lock_cases rb levels s with ⟨-, -, locked, pin⟩ | ⟨-, wasLocked, unlocked, released⟩
      | ⟨-, locked, pin, pullUp⟩
  · exact ⟨by simp [locked], fun _ => pin⟩
  · exact ⟨fun _ => released (by simp [h.2 wasLocked]), by simp [unlocked]⟩
  · rwa [locked, pin, pullUp]

theorem timeoutAfter_le (tflag : Bool) (b : Burst) : b.timeoutAfter tflag ≤ b.timeout := by
  unfold Burst.timeoutAfter
  split_ifs <;> omega

/-- An iteration of `PhaseA` (R212): the fifth LOW sample enters `PhaseB`, and `PhaseA` goes on only with both
counters inside. -/
theorem BurstInRange.afterA (h : BurstInRange b) (phase : b.phase = .phaseA) (rb tflag : Bool) :
    BurstInRange (b.afterA rb tflag) := by
  obtain ⟨events, inA, -, -, -, -⟩ := h
  obtain ⟨low, high, -⟩ := inA phase
  have counted : (b.afterA rb tflag).low ≤ 5 := by
    simp only [Burst.afterA]
    split_ifs <;> omega
  have kept : (b.afterA rb tflag).high = 0 := high
  refine ⟨(timeoutAfter_le tflag b).trans events, fun goesOn => ?_, fun succeeded => ?_, counted, by omega, rfl⟩
  · obtain ⟨more, running⟩ := Burst.afterA_phase_eq_phaseA.mp goesOn
    exact ⟨by omega, kept, by omega⟩
  · exact ⟨Burst.afterA_phase_eq_phaseB.mp succeeded, by omega⟩

/-- An iteration of `PhaseB` (R213) counts HIGH samples below their number, or ends the burst. -/
theorem BurstInRange.afterB (h : BurstInRange b) (phase : b.phase = .phaseB) (rb tflag : Bool) :
    BurstInRange (b.afterB rb tflag) := by
  obtain ⟨events, -, inB, -, -, -⟩ := h
  obtain ⟨low, high⟩ := inB phase
  have counted : (b.afterB rb tflag).high ≤ 500 := by
    simp only [Burst.afterB]
    split_ifs <;> omega
  refine ⟨(timeoutAfter_le tflag b).trans events, fun inA => absurd inA Burst.afterB_phase_ne_phaseA,
    fun goesOn => ⟨low, ?_⟩, low.le, counted, rfl⟩
  obtain ⟨more, -⟩ := Burst.afterB_phase_eq_phaseB.mp goesOn
  omega

/-- The range of `timer_flag` is what `BURST_START` takes over (R211); the rest it loads. -/
theorem BurstInRange.burstStart (h : BurstInRange s.burst) : BurstInRange (burstStart s).burst := by
  obtain ⟨-, -, -, -, -, flag⟩ := h
  exact ⟨le_rfl, fun _ => ⟨(by decide : 0 < 5), rfl, (by decide : 1 ≤ 10000)⟩, nofun, Nat.zero_le 5,
    Nat.zero_le 500, flag⟩

theorem rangeInvariant_resetBlock (s : State) : RangeInvariant (resetBlock s) := by
  rw [resetBlock_eq]
  simp [RangeInvariant, State.resetWith, Config.stateTicksInit, Config.pollTimeoutTicks, Config.tickMs]

theorem RangeInvariant.receive (h : RangeInvariant s) (c : Byte) : RangeInvariant (receive c s) := by
  obtain ⟨watchdog, selfTest, cursor, others⟩ := rangeInvariant_iff.mp h
  refine rangeInvariant_iff.mpr ⟨watchdog.receive c, selfTest.receive c, requestIndex_receive_le cursor c, ?_⟩
  rw [(receive_sameButCommands c s).1]
  exact others

theorem RangeInvariant.tick (h : RangeInvariant s) (rb : Bool) (levels : Vector Bool 4) :
    RangeInvariant (tick rb levels s) := by
  obtain ⟨watchdog, selfTest, cursor, -, burst, lock⟩ := rangeInvariant_iff.mp h
  refine rangeInvariant_iff.mpr ⟨?_, ?_, ?_, ledTicks_tick_lt rb levels s, ?_, lock.tick rb levels⟩
  · rw [tick_watchdog]
    exact watchdog.trigger rb
  · rw [tick_selfTest]
    exact selfTest.trigger rb
  · rwa [tick_receiver]
  · rwa [tick_burst]

theorem RangeInvariant.of_sameButBurst (h : RangeInvariant s) (same : SameButBurst s t) (burst : BurstInRange t.burst) :
    RangeInvariant t := by
  obtain ⟨watchdog, selfTest, cursor, led, -, lock⟩ := rangeInvariant_iff.mp h
  rw [same]
  exact rangeInvariant_iff.mpr ⟨watchdog, selfTest, cursor, led, burst, lock⟩

/-- Settles O54, event by event. -/
theorem everyStepKeepsRangeInvariant : Obligations.EveryStepKeepsRangeInvariant := by
  intro s t h hstep
  have popped (rest : List Event) : RangeInvariant (s.withPending rest) := h
  obtain ⟨-, -, -, -, burst, -⟩ := rangeInvariant_iff.mp h
  rcases step_cases s hstep with ⟨_, rfl⟩ | ⟨rest, _, rfl⟩ | ⟨b, rest, _, _, rfl⟩ | ⟨rb, levels, rest, _, _, rfl⟩
      | ⟨rest, _, _, rfl⟩ | ⟨rb, tflag, rest, _, phase, rfl⟩ | ⟨rb, tflag, rest, _, phase, rfl⟩
  · exact h
  · exact rangeInvariant_resetBlock _
  · exact (popped rest).receive b
  · exact (popped rest).tick rb levels
  · exact (popped rest).of_sameButBurst (burstStart_sameButBurst _) (BurstInRange.burstStart burst)
  · refine (popped rest).of_sameButBurst (burstIterA_sameButBurst _ rb tflag) ?_
    rw [burstIterA_eq rb tflag (s.withPending rest) phase]
    exact burst.afterA phase rb tflag
  · refine (popped rest).of_sameButBurst (burstIterB_sameButBurst _ rb tflag) ?_
    rw [burstIterB_eq rb tflag (s.withPending rest) phase]
    exact burst.afterB phase rb tflag

/-- Settles O55: the reset state is a state after `RESET`. -/
theorem resetStateMeetsBothInvariants : Obligations.ResetStateMeetsBothInvariants :=
  ⟨stateInvariant_resetBlock State.reset, rangeInvariant_resetBlock State.reset⟩

end Sys2Proof.Safety
end

section
/-! SUPPORT. Runs: the lines a run sends (46_receiver.md R240), and runs of ticks that count down to an end. -/

namespace Sys2Proof.Machine

open Sys2Proof.Safety

variable {s t : State} {f : Bytes}

theorem FrameEffect.sent_length (h : FrameEffect f s t) : t.sent.length = s.sent.length + 1 := by
  rcases h.nack_or_acknowledges with ⟨reason, -, rfl⟩ | ⟨cmd, rest, sent, -⟩
  · rw [nackFor_eq, nack_sent, List.length_append, List.length_singleton]
  · rw [sent, List.length_append, List.length_singleton]

theorem isTerminatorEvent_rx (b : Byte) : isTerminatorEvent (.rx b) = isTerminator b := by
  rw [Bool.eq_iff_iff, isTerminator_iff]
  simp [isTerminatorEvent]

/-- One line for a terminator, none for a data byte (R240). -/
theorem receive_sent_length (b : Byte) (s : State) :
    (receive b s).sent.length = s.sent.length + ([Event.rx b].filter isTerminatorEvent).length := by
  rw [List.filter_singleton, isTerminatorEvent_rx]
  rcases receive_cases s b with ⟨terminator, _, resync⟩ | ⟨terminator, _, frame⟩ | ⟨data, h⟩
  · rw [resync, endResync_eq, terminator]
    simp
  · rw [frame.sent_length, terminator]
    rfl
  · rw [h, data]
    rfl

/-- What one step adds to the lines sent, and the events it leaves. -/
theorem step_sent_pending (hstep : step s = .next t) :
    t.sent.length = s.sent.length + ((s.pending.take 1).filter isTerminatorEvent).length
      ∧ t.pending = s.pending.tail := by
  rcases step_cases s hstep with ⟨pending, rfl⟩ | ⟨rest, pending, rfl⟩ | ⟨b, rest, pending, _, rfl⟩
      | ⟨rb, levels, rest, pending, _, rfl⟩ | ⟨rest, pending, _, rfl⟩ | ⟨rb, tflag, rest, pending, _, rfl⟩
      | ⟨rb, tflag, rest, pending, _, rfl⟩
  · simp [pending]
  · rw [pending]
    exact ⟨rfl, rfl⟩
  · rw [pending]
    refine ⟨receive_sent_length b _, ?_⟩
    rw [(receive_sameButCommands b _).1]
    rfl
  · rw [pending, tick_sent, tick_pending]
    exact ⟨rfl, rfl⟩
  · rw [pending]
    exact ⟨rfl, rfl⟩
  · rw [pending, burstIterA_sameButBurst]
    exact ⟨rfl, rfl⟩
  · rw [pending, burstIterB_sameButBurst]
    exact ⟨rfl, rfl⟩

/-- Settles O57, by induction on the number of steps. -/
theorem oneLineForEachTerminator : Obligations.OneLineForEachTerminator := by
  intro k
  induction k with
  | zero =>
    rintro s t ⟨⟩
    simp
  | succ k ih =>
    intro s t hrun
    obtain ⟨u, hstep, hrest⟩ := step_of_run k s t hrun
    obtain ⟨sent, pending⟩ := step_sent_pending hstep
    have events : s.pending.take (k + 1) = s.pending.take 1 ++ s.pending.tail.take k := by
      cases s.pending <;> simp
    rw [ih u t hrest, sent, pending, events, List.filter_append, List.length_append, Nat.add_assoc]

end Sys2Proof.Machine

namespace Sys2Proof.Safety

open Sys2Proof.Machine

variable {s : State}

/-- A run of ticks that counts down: what holds with `n + 1` ticks to go holds, after a tick, with `n` to go. -/
theorem exists_run_ticks {P : ℕ → State → Prop}
    (tickStep : ∀ n s rb levels, P (n + 1) s → P n (tick rb levels s))
    (popped : ∀ n s rest, P n s → P n (s.withPending rest))
    (samples : List (Bool × Vector Bool 4)) (rest : List Event) (s : State) (start : P samples.length s)
    (idle : s.burst.phase = .idle) (pending : s.pending = tickEvents samples ++ rest) :
    ∃ t, run samples.length s = .next t ∧ P 0 t := by
  induction samples generalizing s with
  | nil => exact ⟨s, rfl, start⟩
  | cons p samples ih =>
    have hstep : step s = .next (tick p.1 p.2 (s.withPending (tickEvents samples ++ rest))) := by
      rw [step_of_pending pending]
      exact exec_tick_of_idle p.1 p.2 _ idle
    obtain ⟨t, hrun, goal⟩ := ih (tick p.1 p.2 (s.withPending (tickEvents samples ++ rest)))
      (tickStep _ _ _ _ (popped _ _ _ start)) (by rw [tick_burst]; exact idle) (tick_pending _ _ _)
    exact ⟨t, (run_of_step _ _ _ hstep).trans hrun, goal⟩

/-- In `Error` with the counter at 0 a tick leaves every pin of the outputs and the relay LOW (R193, R196). -/
theorem tick_pins_low (rb : Bool) (levels : Vector Bool 4) (error : (tick rb levels s).watchdog.state = .error)
    (counter : (tick rb levels s).watchdog.counter = 0) :
    (tick rb levels s).pins.wdPin = false ∧ (tick rb levels s).pins.outPin = Vector.replicate 7 false := by
  constructor
  · have closed : (trigger rb s).1 = false := by
      rw [← Bool.not_eq_true, trigger_permit, ← tick_watchdog s rb levels, counter]
      exact fun h => absurd h.1 (lt_irrefl 0)
    rw [tick_wdPin, closed, Bool.false_and]
  · ext i hi
    have level := tick_outPin rb levels s ⟨i, hi⟩
    rw [outLevel_eq, error] at level
    simpa using level

/-- An untriggered watchdog, `n` ticks before its end: it runs with the counter at `n`, or it has ended with all pins
LOW. -/
def CountsDown (n : ℕ) (s : State) : Prop :=
  (s.watchdog.state = .ok ∧ s.watchdog.counter = n ∧ 0 < n)
  ∨ (s.watchdog.state = .error ∧ s.watchdog.counter = 0
      ∧ s.pins.wdPin = false ∧ s.pins.outPin = Vector.replicate 7 false)

theorem countsDown_of_error (rb : Bool) (levels : Vector Bool 4) {n : ℕ}
    (error : (tick rb levels s).watchdog.state = .error) (counter : (tick rb levels s).watchdog.counter = 0) :
    CountsDown n (tick rb levels s) :=
  .inr ⟨error, counter, tick_pins_low rb levels error counter⟩

theorem countsDown_tick {n : ℕ} (h : CountsDown (n + 1) s) (rb : Bool) (levels : Vector Bool 4) :
    CountsDown n (tick rb levels s) := by
  have after : (tick rb levels s).watchdog = (selftestHandler rb s).watchdog.afterTick := by
    rw [tick_watchdog, trigger_watchdog_eq]
  rcases h with ⟨ok, counter, -⟩ | ⟨error, counter, -, -⟩
  · rcases selftestHandler_watchdog_or_enterError rb s with kept | forced
    · rw [kept, Watchdog.afterTick_of_ok ok, counter] at after
      rcases Nat.eq_zero_or_pos n with rfl | more
      · rw [if_neg (by omega), Watchdog.enterError_eq] at after
        exact countsDown_of_error rb levels (by rw [after]) (by rw [after])
      · rw [if_pos (by omega)] at after
        exact .inl ⟨by rw [after]; exact ok, by rw [after]; rfl, more⟩
    · rw [forced, Watchdog.enterError_eq, Watchdog.afterTick_of_error rfl] at after
      exact countsDown_of_error rb levels (by rw [after]) (by rw [after])
  · rw [selftestHandler_watchdog_of_error rb error, Watchdog.afterTick_of_error error] at after
    exact countsDown_of_error rb levels (by rw [after]; exact error) (by rw [after]; exact counter)

/-- Settles O58: `CountsDown` starts at the counter and is over at 0. -/
theorem untriggeredWatchdogStopsInTime : Obligations.UntriggeredWatchdogStopsInTime := by
  intro samples rest s ok counter nonempty idle pending
  obtain ⟨t, hrun, ⟨-, -, left⟩ | ended⟩ := exists_run_ticks (P := CountsDown)
    (fun _ _ rb levels h => countsDown_tick h rb levels)
    (fun _ _ _ h => h) samples rest s (.inl ⟨ok, counter, nonempty⟩) idle pending
  · exact absurd left (lt_irrefl 0)
  · exact ⟨t, hrun, ended⟩

/-- The grace period, `n` ticks before its end: at 0 the pin is not locked any more. -/
def GraceLeft (n : ℕ) (s : State) : Prop :=
  s.watchdog.state = .error ∧ s.watchdog.resetLockCounter = n
  ∧ LockInRange s.cyclic.lockPinLocked s.pins.lockPin s.pins.lockPullUp
  ∧ (n = 0 → s.cyclic.lockPinLocked = false)

/-- Step 4 leaves the pin locked exactly where the lock is required (R194, R195). -/
theorem tick_lockPinLocked_iff (rb : Bool) (levels : Vector Bool 4) (s : State) :
    (tick rb levels s).cyclic.lockPinLocked = true ↔ (tick rb levels s).watchdog.resetLockCounter ≠ 0 := by
  rcases tick_lock_cases rb levels s with ⟨required, -, locked, -⟩ | ⟨released, -, unlocked, -⟩ | ⟨noEdge, locked, -⟩
  · simp [required, locked]
  · simp [released, unlocked]
  · rw [locked, noEdge]

theorem graceLeft_tick {n : ℕ} (h : GraceLeft (n + 1) s) (rb : Bool) (levels : Vector Bool 4) :
    GraceLeft n (tick rb levels s) := by
  obtain ⟨error, left, lock, -⟩ := h
  have after := trigger_watchdog_of_error rb error
  rw [← tick_watchdog s rb levels, left] at after
  have counter : (tick rb levels s).watchdog.resetLockCounter = n := by rw [after]; rfl
  refine ⟨by rw [after]; exact error, counter, lock.tick rb levels, fun zero => ?_⟩
  rw [← Bool.not_eq_true, tick_lockPinLocked_iff, counter]
  exact not_not_intro zero

/-- Settles O59: `GraceLeft` starts at the lock counter; at its end the pin is not locked, and so released. -/
theorem gracePeriodEndsWithLockReleased : Obligations.GracePeriodEndsWithLockReleased := by
  intro samples rest s _ range error left nonempty idle pending
  obtain ⟨-, -, -, -, -, lock⟩ := rangeInvariant_iff.mp range
  obtain ⟨t, hrun, ended, zero, released, unlocked⟩ := exists_run_ticks (P := GraceLeft)
    (fun _ _ rb levels h => graceLeft_tick h rb levels) (fun _ _ _ h => h) samples rest s
    ⟨error, left, lock, fun zero => absurd zero nonempty.ne'⟩ idle pending
  exact ⟨t, hrun, ended, zero, released.1 (unlocked rfl)⟩

/-- The initial test, `n` ticks before the end of its window: it has been left, or its window is open and no longer.
-/
def InitialWindowLeft (n : ℕ) (s : State) : Prop :=
  s.selfTest.testState = .initial → 0 < s.selfTest.pollingTimeout ∧ s.selfTest.pollingTimeout ≤ n

theorem initialWindowLeft_tick {n : ℕ} (h : InitialWindowLeft (n + 1) s) (rb : Bool) (levels : Vector Bool 4) :
    InitialWindowLeft n (tick rb levels s) := by
  intro stays
  rw [tick_selfTest, trigger_selfTest] at stays ⊢
  dsimp only at stays ⊢
  have initial : s.selfTest.testState = .initial := not_not.mp fun other => selftestHandler_ne_initial other stays
  obtain ⟨-, window⟩ := h initial
  rw [selftestHandler_of_initial rb initial] at stays ⊢
  rcases expectLow_cases s.params.testInitial 0x0001 rb s with passed | failed | ⟨-, more, used⟩
  · cases passed.symm.trans stays
  · cases failed.symm.trans stays
  · omega

/-- Settles O60: at 0 an open window is a contradiction. -/
theorem initialSelfTestEndsWithinItsWindow : Obligations.InitialSelfTestEndsWithinItsWindow := by
  intro samples rest s _ window nonempty idle pending
  obtain ⟨t, hrun, ended⟩ := exists_run_ticks (P := InitialWindowLeft)
    (fun _ _ rb levels h => initialWindowLeft_tick h rb levels)
    (fun _ _ _ h => h) samples rest s (fun _ => ⟨window.symm ▸ nonempty, window.le⟩) idle pending
  refine ⟨t, hrun, fun initial => ?_⟩
  have := ended initial
  omega

end Sys2Proof.Safety
end
